-- ==== Sys2Proof/Word.lean ====
section
/-! DEFINITION. The machine's data widths (00_scope.md R5): byte 8 bits, word 16, longword 32; an address has 24. -/

namespace Sys2Proof

/-- A byte, bits 7..0 (R5, R7). -/
abbrev Byte := BitVec 8

/-- A word, bits 15..0 (R5, R7). -/
abbrev Word := BitVec 16

/-- A longword, bits 31..0 (R5, R7). -/
abbrev Long := BitVec 32

/-- An address or a program counter, bits 23..0 (R27, R66). -/
abbrev Addr := BitVec 24

end Sys2Proof
end

