-- ==== Sys2Proof/Config.lean ====
section
/-! DEFINITION. The values the spec leaves open: constants with no body, so that nothing can be proved of them.
The LSI parameters of R6 (MODE, UI_IS_MASK, HAS_ECLOCK, SSBY, MemMap, IntEnv) are fields of the state instead,
constant or driven by the environment, so that every statement covers each of their values. -/

namespace Sys2Proof.Config

/-- Free values, one per drawing (R9 and R11: `undef` is drawn afresh at each use). `State.draws` counts the
drawings. Log 6. -/
opaque freeLong : Nat → Long

/-- What a byte of RAM or ROM that nothing has written reads as: any value, the same one each time it is read
(92 D25: RAM content before the first write is arbitrary). Log 5. -/
opaque initialByte : Nat → Byte

end Sys2Proof.Config
end

