-- ==== Sys2Proof/Machine/State.lean ====
section
/-! DEFINITION. Everything the spec gives the machine, as plain data (10_state.md, 60_exceptions.md, 00_scope.md R6),
the reasons a step can stop, and the state right after reset. -/

namespace Sys2Proof.Machine

/-- The CPU operating mode, chosen by the LSI's mode pins and never by an instruction (R6 `MODE`, D1). -/
inductive Mode where
  /-- 16-bit addresses, 64 kbytes (R42). -/
  | normal
  /-- 24-bit addresses, 16 Mbytes (R42). -/
  | advanced
  deriving DecidableEq, Repr

/-- The processing state (R43.1, R480). Exception handling is one atomic step (R480, R488), so it is no state between
steps (log 27). -/
inductive ProcState where
  /-- The CPU executes the program. -/
  | programExecution
  /-- RES is low, or has just been released: nothing executes (R530). -/
  | reset
  /-- The bus is released to another bus master (R503). -/
  | busReleased
  /-- Sleep mode (R500). -/
  | sleep
  /-- Software standby mode (R501). -/
  | softwareStandby
  /-- Hardware standby mode (R502). -/
  | hardwareStandby
  deriving DecidableEq, Repr

/-- An interrupt request as the LSI presents it (R490, R492, D3). -/
structure Request where
  /-- Whether it is NMI. -/
  isNMI : Bool
  /-- `VectorOf`: the address of its vector-table entry. -/
  vector : Addr
  /-- `IntEnv.enabled` for I = 1, UI = 0 when UI is a mask bit: the one case D20 leaves to the LSI. -/
  passesI : Bool
  /-- `IntEnv.wakesStandby`: whether it ends software standby mode (R501, D19). -/
  wakesStandby : Bool
  deriving DecidableEq, Repr

/-- The classes of bus target (R6 `MemMap`, R82, R545). They differ in timing only. -/
inductive BusClass where
  | onChipMemory
  | peripheral8
  | peripheral16
  | external8TwoState
  | external8ThreeState
  | external16TwoState
  | external16ThreeState
  /-- Nothing is there (R74). -/
  | absent
  deriving DecidableEq, Repr

/-- One region of the LSI's memory map (R6, R72, D25, D29). -/
structure Region where
  /-- First address. -/
  base : Nat
  /-- Number of bytes. -/
  size : Nat
  /-- What kind of bus target it is. -/
  cls : BusClass
  /-- Whether the environment answers its reads and writes (a device register), D29. -/
  device : Bool
  /-- Whether writes are dropped (ROM), D25. -/
  readOnly : Bool
  /-- Wait states m of a three-state external access (R545). -/
  waits : Nat
  deriving DecidableEq, Repr

/-- What the environment does at one step boundary, and during the instruction that follows (R6 `IntEnv`, D3, D13, D23,
D28; log 19). -/
structure Tick where
  /-- Level of the RES pin: low. -/
  resLow : Bool
  /-- Level of the STBY pin: low. -/
  stbyLow : Bool
  /-- Another bus master requests the bus. -/
  busReq : Bool
  /-- What other masters write while the bus is released at this boundary. -/
  busWrites : List Host.Cell
  /-- What other masters write between the data bus cycles of the next instruction, one entry per cycle. -/
  busScript : List (List Host.Cell)
  /-- The requests now presented, ranked; `none` leaves them as they were. -/
  present : Option (List Request)
  /-- An NMI that arrives once that many bytes of the next instruction's block transfer are done (D23). -/
  lateNmi : Option (Nat × Request)
  /-- A new value of the LSI's SSBY bit. -/
  ssby : Option Bool
  deriving DecidableEq, Repr

/-- The eight 32-bit general registers (R20, R21); ER7 is the stack pointer (R22). -/
structure RegFile where
  er0 : Long
  er1 : Long
  er2 : Long
  er3 : Long
  er4 : Long
  er5 : Long
  er6 : Long
  er7 : Long
  deriving DecidableEq, Repr

/-- The state of the machine. -/
structure State where
  /-- ER0..ER7 (R20). -/
  regs : RegFile
  /-- The program counter (R27). -/
  pc : Addr
  /-- The condition-code register, I UI H U N Z V C from bit 7 down (R31). -/
  ccr : Byte
  /-- The processing state (R480). -/
  proc : ProcState
  /-- `inhibit_int`: the next boundary detects no interrupt (R491). -/
  inhibitInt : Bool
  /-- Memory: bytes that hold a written value, by rising address (R42, R60). -/
  mem : List Host.Cell
  /-- Prefetched instruction bytes as they were before a store changed them (R43.5, R80, D14). -/
  stale : List Host.Cell
  /-- Interrupt requests now presented, ranked by the LSI (R43.2, R490). -/
  pending : List Request
  /-- An NMI arriving during the instruction now running (R472, D23). -/
  lateNmi : Option (Nat × Request)
  /-- The NMI that has cut an EEPMOV.W and whose entry follows (R472, D23; log 20). -/
  nmiDue : Option Request
  /-- Other masters' writes between the data bus cycles of the instruction now running (R69, R79, D21). -/
  busScript : List (List Host.Cell)
  /-- RES is low (R530). -/
  resLow : Bool
  /-- STBY is low (R502). -/
  stbyLow : Bool
  /-- Another bus master requests the bus (R503). -/
  busReq : Bool
  /-- The LSI's SSBY bit as SLEEP sees it (R433). -/
  ssby : Bool
  /-- The operating mode (D1). -/
  mode : Mode
  /-- `UI_IS_MASK` (D2). -/
  uiIsMask : Bool
  /-- `HAS_ECLOCK` (D16). -/
  hasEClock : Bool
  /-- `MemMap`; an address in no region is on-chip RAM (R6, R72). -/
  memMap : List Region
  /-- MODEL: the environment's coming inputs, one per step; when it is empty nothing changes (log 19). -/
  env : List Tick
  /-- MODEL: how many free values have been drawn (log 6). -/
  draws : Nat
  deriving DecidableEq, Repr

/-- Faults: none. The CPU has no exception but reset, interrupt and TRAPA (R481, R497), and the spec treats no open
point as a fault (93_implementation_defined.md), so this type has no constructor (log 34). -/
inductive Fault where
  deriving DecidableEq, Repr

/-- Why a step has no next state. Each is safe: the model stops where the hardware goes on in a way the spec does not
give. -/
inductive Refusal where
  /-- Raised by `exec` for an instruction whose meaning is not written. Safe. -/
  | notModelled (mnemonic : String)
  /-- Raised by the step when the words at PC are an undefined instruction code (R114, D4, D22). Safe. -/
  | undefinedInstruction
  /-- Raised by MOVFPE and MOVTPE on an LSI without E clock (R222, R223, D16). Safe. -/
  | noEClock
  /-- Raised by interrupt entry for a request whose vector address is odd, or is a slot the spec fixes: reset, reserved
  for system use, TRAPA (R483, D3, U7). Safe. -/
  | illegalVector
  deriving DecidableEq, Repr

/-- The register file at reset: the spec initialises no general register (R44). Zero is the model's choice
(DESIGN CHOICE, log 1). -/
def RegFile.reset : RegFile := ⟨0, 0, 0, 0, 0, 0, 0, 0⟩

/-- The machine right after reset exception handling (R44, R530): I = 1, interrupts inhibited for one boundary, program
execution. PC comes from the vector at address 0, which no memory content gives yet: 0 is the model's choice (log 3);
the other CCR bits and the LSI's parameters likewise (logs 2, 4). -/
def State.reset : State where
  regs := RegFile.reset
  pc := 0
  ccr := 0x80#8
  proc := .programExecution
  inhibitInt := true
  mem := []
  stale := []
  pending := []
  lateNmi := none
  nmiDue := none
  busScript := []
  resLow := false
  stbyLow := false
  busReq := false
  ssby := false
  mode := .advanced
  uiIsMask := false
  hasEClock := true
  memMap := []
  env := []
  draws := 0

end Sys2Proof.Machine
end

