-- ==== Sys2Proof/Machine/Flags.lean ====
section
/-! DEFINITION. The condition codes and every computation that sets them (10_state.md R31 to R40; 42_arithmetic.md R230,
R248, R249; 43_logic_shift.md R300, R322; 41_data_transfer.md R170; 45_branch.md R401), as functions of values. -/

namespace Sys2Proof.Machine

/-- The bits of CCR (R31). -/
inductive Flag where
  | c
  | v
  | z
  | n
  | u
  | h
  | ui
  | i
  deriving DecidableEq, Repr

/-- The bit position of a flag in CCR (R31). -/
def Flag.pos : Flag → Nat
  | .c => 0
  | .v => 1
  | .z => 2
  | .n => 3
  | .u => 4
  | .h => 5
  | .ui => 6
  | .i => 7

/-- A flag of a CCR value. -/
def ccrGet (c : Byte) (f : Flag) : Bool := c.getLsbD f.pos

/-- A CCR value with one flag replaced. -/
def ccrSet (c : Byte) (f : Flag) (b : Bool) : Byte :=
  if b then c ||| (1#8 <<< f.pos) else c &&& ~~~(1#8 <<< f.pos)

/-! ### Addition and subtraction (R230) -/

/-- A result with the five flags of an addition or a subtraction. -/
structure AluResult (w : Nat) where
  value : BitVec w
  h : Bool
  n : Bool
  z : Bool
  v : Bool
  c : Bool
  deriving DecidableEq, Repr

/-- `Add(a, b, cin, size)` of R230: C is the carry out of the top bit m, H the carry out of bit m - 4. -/
def aluAdd {w : Nat} (a b : BitVec w) (cin : Bool) : AluResult w :=
  let full := a.toNat + b.toNat + cin.toNat
  let r := BitVec.ofNat w full
  { value := r
    h := decide (2 ^ (w - 4) ≤ a.toNat % 2 ^ (w - 4) + b.toNat % 2 ^ (w - 4) + cin.toNat)
    n := r.msb
    z := decide (r = 0#w)
    v := (a.msb == b.msb) && (r.msb != a.msb)
    c := decide (2 ^ w ≤ full) }

/-- `Sub(a, b, bin, size)` of R230, a - b - bin: C is the borrow at the top bit m, H the borrow at bit m - 4. -/
def aluSub {w : Nat} (a b : BitVec w) (bin : Bool) : AluResult w :=
  let r := a - b - BitVec.ofNat w bin.toNat
  { value := r
    h := decide (a.toNat % 2 ^ (w - 4) < b.toNat % 2 ^ (w - 4) + bin.toNat)
    n := r.msb
    z := decide (r = 0#w)
    v := (a.msb != b.msb) && (r.msb != a.msb)
    c := decide (a.toNat < b.toNat + bin.toNat) }

/-- CCR after ADD, SUB, CMP, NEG: H, N, Z, V, C (R40). -/
def ccrAlu {w : Nat} (c : Byte) (x : AluResult w) : Byte :=
  ccrSet (ccrSet (ccrSet (ccrSet (ccrSet c .h x.h) .n x.n) .z x.z) .v x.v) .c x.c

/-- CCR after ADDX, SUBX: Z is kept on a zero result and cleared otherwise (R240, R285, C4). -/
def ccrAluX {w : Nat} (c : Byte) (x : AluResult w) : Byte :=
  ccrSet (ccrSet (ccrSet (ccrSet (ccrSet c .h x.h) .n x.n) .z (ccrGet c .z && x.z)) .v x.v) .c x.c

/-- CCR with N, Z, V replaced. -/
def ccrNZV (c : Byte) (n z v : Bool) : Byte := ccrSet (ccrSet (ccrSet c .n n) .z z) .v v

/-- `MovFlags` (R170): N the sign of the datum, Z whether it is zero, V = 0. -/
def ccrMove {w : Nat} (c : Byte) (x : BitVec w) : Byte := ccrNZV c x.msb (decide (x = 0#w)) false

/-- `LogicFlags` (R300): N the sign of the result, Z whether it is zero, V = 0. Also EXTS (R261, R262). -/
def ccrLogic {w : Nat} (c : Byte) (r : BitVec w) : Byte := ccrNZV c r.msb (decide (r = 0#w)) false

/-- CCR after EXTU (R263, R264): N = 0, Z whether the result is zero, V = 0. -/
def ccrExtu {w : Nat} (c : Byte) (r : BitVec w) : Byte := ccrNZV c false (decide (r = 0#w)) false

/-- CCR after INC of `d` giving `r` (R265 to R269, C3): V when the sign goes from positive to negative. -/
def ccrInc {w : Nat} (c : Byte) (d r : BitVec w) : Byte := ccrNZV c r.msb (decide (r = 0#w)) (!d.msb && r.msb)

/-- CCR after DEC of `d` giving `r` (R250 to R254): V when the sign goes from negative to positive. -/
def ccrDec {w : Nat} (c : Byte) (d r : BitVec w) : Byte := ccrNZV c r.msb (decide (r = 0#w)) (d.msb && !r.msb)

/-- CCR with N and Z replaced (MULXS, DIVXS, DIVXU). -/
def ccrNZ (c : Byte) (n z : Bool) : Byte := ccrSet (ccrSet c .n n) .z z

/-! ### Decimal adjustment (R248, R249) -/

/-- One row of the DAA or DAS table: the ranges it covers and the value it adds. -/
structure DecimalRow where
  cBefore : Bool
  hiFrom : Nat
  hiTo : Nat
  hBefore : Bool
  loFrom : Nat
  loTo : Nat
  added : Byte
  cAfter : Bool
  deriving DecidableEq, Repr

/-- Whether a row covers the flags C and H and the byte `x`. -/
def decimalRowFits (r : DecimalRow) (c h : Bool) (x : Byte) : Bool :=
  r.cBefore == c && r.hBefore == h &&
    decide (r.hiFrom ≤ x.toNat / 16 ∧ x.toNat / 16 ≤ r.hiTo) &&
    decide (r.loFrom ≤ x.toNat % 16 ∧ x.toNat % 16 ≤ r.loTo)

/-- The adjustment table of DAA (R248, C7). -/
def daaTable : List DecimalRow :=
  [⟨false, 0x0, 0x9, false, 0x0, 0x9, 0x00#8, false⟩,
   ⟨false, 0x0, 0x8, false, 0xA, 0xF, 0x06#8, false⟩,
   ⟨false, 0x0, 0x9, true, 0x0, 0x3, 0x06#8, false⟩,
   ⟨false, 0xA, 0xF, false, 0x0, 0x9, 0x60#8, true⟩,
   ⟨false, 0x9, 0xF, false, 0xA, 0xF, 0x66#8, true⟩,
   ⟨false, 0xA, 0xF, true, 0x0, 0x3, 0x66#8, true⟩,
   ⟨true, 0x0, 0x2, false, 0x0, 0x9, 0x60#8, true⟩,
   ⟨true, 0x0, 0x2, false, 0xA, 0xF, 0x66#8, true⟩,
   ⟨true, 0x0, 0x3, true, 0x0, 0x3, 0x66#8, true⟩]

/-- The adjustment table of DAS (R249). -/
def dasTable : List DecimalRow :=
  [⟨false, 0x0, 0x9, false, 0x0, 0x9, 0x00#8, false⟩,
   ⟨false, 0x0, 0x8, true, 0x6, 0xF, 0xFA#8, false⟩,
   ⟨true, 0x7, 0xF, false, 0x0, 0x9, 0xA0#8, true⟩,
   ⟨true, 0x6, 0xF, true, 0x6, 0xF, 0x9A#8, true⟩]

/-- The row of a table that matches, if there is one; without one the result is not guaranteed (R299). -/
def decimalRow (t : List DecimalRow) (c h : Bool) (x : Byte) : Option DecimalRow :=
  t.find? fun r => decimalRowFits r c h x

/-! ### Shifts and rotates (R322) -/

/-- A shifted value with the bit shifted out and the overflow flag. -/
structure ShiftResult (w : Nat) where
  value : BitVec w
  c : Bool
  v : Bool
  deriving DecidableEq, Repr

/-- SHAL: V is whether the sign changes. -/
def shiftShal {w : Nat} (d : BitVec w) : ShiftResult w :=
  ⟨d <<< 1, d.msb, d.msb != d.getLsbD (w - 2)⟩

/-- SHLL: as SHAL, with V = 0. -/
def shiftShll {w : Nat} (d : BitVec w) : ShiftResult w := ⟨d <<< 1, d.msb, false⟩

/-- SHAR: the top bit keeps its value. -/
def shiftShar {w : Nat} (d : BitVec w) : ShiftResult w := ⟨d.sshiftRight 1, d.getLsbD 0, false⟩

/-- SHLR: the top bit becomes 0. -/
def shiftShlr {w : Nat} (d : BitVec w) : ShiftResult w := ⟨d >>> 1, d.getLsbD 0, false⟩

/-- A bit as a value of width `w`. -/
def bitAt (w k : Nat) (b : Bool) : BitVec w := if b then 1#w <<< k else 0#w

/-- ROTL: the bit shifted out enters at bit 0. -/
def shiftRotl {w : Nat} (d : BitVec w) : ShiftResult w := ⟨d <<< 1 ||| bitAt w 0 d.msb, d.msb, false⟩

/-- ROTR: the bit shifted out enters at the top. -/
def shiftRotr {w : Nat} (d : BitVec w) : ShiftResult w :=
  ⟨d >>> 1 ||| bitAt w (w - 1) (d.getLsbD 0), d.getLsbD 0, false⟩

/-- ROTXL: the old C enters at bit 0. -/
def shiftRotxl {w : Nat} (cin : Bool) (d : BitVec w) : ShiftResult w := ⟨d <<< 1 ||| bitAt w 0 cin, d.msb, false⟩

/-- ROTXR: the old C enters at the top. -/
def shiftRotxr {w : Nat} (cin : Bool) (d : BitVec w) : ShiftResult w :=
  ⟨d >>> 1 ||| bitAt w (w - 1) cin, d.getLsbD 0, false⟩

/-- `ShiftFlags` (R322). -/
def ccrShift {w : Nat} (c : Byte) (x : ShiftResult w) : Byte :=
  ccrSet (ccrNZV c x.value.msb (decide (x.value = 0#w)) x.v) .c x.c

/-! ### Multiplication and division (R255 to R260, R270 to R273) -/

/-- Unsigned product at width `m`. -/
def mulUnsigned {w : Nat} (m : Nat) (a b : BitVec w) : BitVec m := BitVec.ofNat m (a.toNat * b.toNat)

/-- Signed product at width `m`. -/
def mulSigned {w : Nat} (m : Nat) (a b : BitVec w) : BitVec m := BitVec.ofInt m (a.toInt * b.toInt)

/-- Unsigned division: remainder and quotient, or nothing where the divisor is zero or the quotient does not fit (R258,
R259, R260). -/
def divUnsigned {m w : Nat} (d : BitVec m) (s : BitVec w) : Option (BitVec w × BitVec w) :=
  if s = 0#w ∨ 2 ^ w ≤ d.toNat / s.toNat then none
  else some (BitVec.ofNat w (d.toNat % s.toNat), BitVec.ofNat w (d.toNat / s.toNat))

/-- Signed division, truncating toward zero, the remainder having the sign of the dividend: remainder and quotient, or
nothing where the divisor is zero or the quotient does not fit (R255, R256, R257). -/
def divSigned {m w : Nat} (d : BitVec m) (s : BitVec w) : Option (BitVec w × BitVec w) :=
  let q := d.toInt.tdiv s.toInt
  if s = 0#w ∨ q < -(2 : Int) ^ (w - 1) ∨ (2 : Int) ^ (w - 1) ≤ q then none
  else some (BitVec.ofInt w (d.toInt.tmod s.toInt), BitVec.ofInt w q)

/-! ### Branch conditions (R401) -/

/-- `Cond(cc)` of R401: the upper three bits of cc choose a condition, bit 0 inverts it. -/
def branchCond (cc : BitVec 4) (c : Byte) : Bool :=
  let base :=
    match (cc >>> 1).toNat with
    | 0 => true
    | 1 => !(ccrGet c .c || ccrGet c .z)
    | 2 => !ccrGet c .c
    | 3 => !ccrGet c .z
    | 4 => !ccrGet c .v
    | 5 => !ccrGet c .n
    | 6 => !(ccrGet c .n != ccrGet c .v)
    | _ => !(ccrGet c .z || (ccrGet c .n != ccrGet c .v))
  base != cc.getLsbD 0

/-! ### Bits of a byte (R360 to R364) -/

/-- The byte with bit `n` set to `b`. -/
def byteWithBit (x : Byte) (n : BitVec 3) (b : Bool) : Byte :=
  if b then x ||| (1#8 <<< n.toNat) else x &&& ~~~(1#8 <<< n.toNat)

/-- Bit `n` of a byte. -/
def byteBit (x : Byte) (n : BitVec 3) : Bool := x.getLsbD n.toNat

/-- The bit number a register gives: its low three bits (R361). -/
def bitNumber (x : Byte) : BitVec 3 := x.setWidth 3

end Sys2Proof.Machine
end

