-- ==== Sys2Proof/Syntax.lean ====
section
/-! DEFINITION. The instruction set as syntax: one constructor of `Instr` per row of spec/opcode_table.json, in the
table's order (30_encoding.md R119). A constructor is named after the mnemonic, its size and its operand form. -/

namespace Sys2Proof

/-- A 3-bit register field: names ER0..ER7, as address register or 32-bit register (R23). -/
abbrev ERn := BitVec 3

/-- An 8-bit register: RnH or RnL, the high or the low byte of Rn (R21, R23). -/
inductive Reg8 where
  /-- RnH, bits 15..8 of ERn. -/
  | h (n : ERn)
  /-- RnL, bits 7..0 of ERn. -/
  | l (n : ERn)
  deriving DecidableEq, Repr

/-- A 16-bit register: Rn or En, the low or the high half of ERn (R21, R23). -/
inductive Reg16 where
  /-- Rn, bits 15..0 of ERn. -/
  | r (n : ERn)
  /-- En, bits 31..16 of ERn. -/
  | e (n : ERn)
  deriving DecidableEq, Repr

/-- The 32-bit register an 8-bit register is a part of (R21). -/
def Reg8.whole : Reg8 → ERn
  | .h n => n
  | .l n => n

/-- The 32-bit register a 16-bit register is a part of (R21). -/
def Reg16.whole : Reg16 → ERn
  | .r n => n
  | .e n => n

/-- The instructions. Operands stand in the order of the operand format, source first (R118). -/
inductive Instr where
  /-- `MOV.B #xx:8,Rd`, encoding `F rd imm8` (R173). -/
  | movBImm (imm : BitVec 8) (rd : Reg8)
  /-- `MOV.B Rs,Rd`, encoding `0C rs rd` (R174). -/
  | movBReg (rs : Reg8) (rd : Reg8)
  /-- `MOV.B @ERs,Rd`, encoding `68 0ers rd` (R175). -/
  | movBLoadInd (ers : ERn) (rd : Reg8)
  /-- `MOV.B @(d:16,ERs),Rd`, encoding `6E 0ers rd d16` (R176). -/
  | movBLoadDisp16 (disp : BitVec 16) (ers : ERn) (rd : Reg8)
  /-- `MOV.B @(d:24,ERs),Rd`, encoding `78 0ers 0 6A 2 rd 00 d24` (R177). -/
  | movBLoadDisp24 (disp : BitVec 24) (ers : ERn) (rd : Reg8)
  /-- `MOV.B @ERs+,Rd`, encoding `6C 0ers rd` (R178). -/
  | movBLoadPostInc (ers : ERn) (rd : Reg8)
  /-- `MOV.B @aa:8,Rd`, encoding `2 rd abs8` (R179). -/
  | movBLoadAbs8 (abs : BitVec 8) (rd : Reg8)
  /-- `MOV.B @aa:16,Rd`, encoding `6A 0 rd abs16` (R180). -/
  | movBLoadAbs16 (abs : BitVec 16) (rd : Reg8)
  /-- `MOV.B @aa:24,Rd`, encoding `6A 2 rd 00 abs24` (R181). -/
  | movBLoadAbs24 (abs : BitVec 24) (rd : Reg8)
  /-- `MOV.B Rs,@ERd`, encoding `68 1erd rs` (R182). -/
  | movBStoreInd (rs : Reg8) (erd : ERn)
  /-- `MOV.B Rs,@-ERd`, encoding `6C 1erd rs` (R183). -/
  | movBStorePreDec (rs : Reg8) (erd : ERn)
  /-- `MOV.B Rs,@(d:16,ERd)`, encoding `6E 1erd rs d16` (R184). -/
  | movBStoreDisp16 (rs : Reg8) (disp : BitVec 16) (erd : ERn)
  /-- `MOV.B Rs,@(d:24,ERd)`, encoding `78 0erd 0 6A A rs 00 d24` (R185). -/
  | movBStoreDisp24 (rs : Reg8) (disp : BitVec 24) (erd : ERn)
  /-- `MOV.B Rs,@aa:8`, encoding `3 rs abs8` (R186). -/
  | movBStoreAbs8 (rs : Reg8) (abs : BitVec 8)
  /-- `MOV.B Rs,@aa:16`, encoding `6A 8 rs abs16` (R187). -/
  | movBStoreAbs16 (rs : Reg8) (abs : BitVec 16)
  /-- `MOV.B Rs,@aa:24`, encoding `6A A rs 00 abs24` (R188). -/
  | movBStoreAbs24 (rs : Reg8) (abs : BitVec 24)
  /-- `MOV.W #xx:16,Rd`, encoding `79 0 rd imm16` (R189). -/
  | movWImm (imm : BitVec 16) (rd : Reg16)
  /-- `MOV.W Rs,Rd`, encoding `0D rs rd` (R190). -/
  | movWReg (rs : Reg16) (rd : Reg16)
  /-- `MOV.W @ERs,Rd`, encoding `69 0ers rd` (R191). -/
  | movWLoadInd (ers : ERn) (rd : Reg16)
  /-- `MOV.W @(d:16,ERs),Rd`, encoding `6F 0ers rd d16` (R192). -/
  | movWLoadDisp16 (disp : BitVec 16) (ers : ERn) (rd : Reg16)
  /-- `MOV.W @(d:24,ERs),Rd`, encoding `78 0ers 0 6B 2 rd 00 d24` (R193). -/
  | movWLoadDisp24 (disp : BitVec 24) (ers : ERn) (rd : Reg16)
  /-- `MOV.W @ERs+,Rd`, encoding `6D 0ers rd` (R194). -/
  | movWLoadPostInc (ers : ERn) (rd : Reg16)
  /-- `MOV.W @aa:16,Rd`, encoding `6B 0 rd abs16` (R195). -/
  | movWLoadAbs16 (abs : BitVec 16) (rd : Reg16)
  /-- `MOV.W @aa:24,Rd`, encoding `6B 2 rd 00 abs24` (R196). -/
  | movWLoadAbs24 (abs : BitVec 24) (rd : Reg16)
  /-- `MOV.W Rs,@ERd`, encoding `69 1erd rs` (R197). -/
  | movWStoreInd (rs : Reg16) (erd : ERn)
  /-- `MOV.W Rs,@-ERd`, encoding `6D 1erd rs` (R198). -/
  | movWStorePreDec (rs : Reg16) (erd : ERn)
  /-- `MOV.W Rs,@(d:16,ERd)`, encoding `6F 1erd rs d16` (R199). -/
  | movWStoreDisp16 (rs : Reg16) (disp : BitVec 16) (erd : ERn)
  /-- `MOV.W Rs,@(d:24,ERd)`, encoding `78 0erd 0 6B A rs 00 d24` (R200). -/
  | movWStoreDisp24 (rs : Reg16) (disp : BitVec 24) (erd : ERn)
  /-- `MOV.W Rs,@aa:16`, encoding `6B 8 rs abs16` (R201). -/
  | movWStoreAbs16 (rs : Reg16) (abs : BitVec 16)
  /-- `MOV.W Rs,@aa:24`, encoding `6B A rs 00 abs24` (R202). -/
  | movWStoreAbs24 (rs : Reg16) (abs : BitVec 24)
  /-- `MOV.L #xx:32,ERd`, encoding `7A 0 0erd imm32` (R204). -/
  | movLImm (imm : BitVec 32) (erd : ERn)
  /-- `MOV.L ERs,ERd`, encoding `0F 1ers 0erd` (R205). -/
  | movLReg (ers : ERn) (erd : ERn)
  /-- `MOV.L @ERs,ERd`, encoding `0100 69 0ers 0erd` (R206). -/
  | movLLoadInd (ers : ERn) (erd : ERn)
  /-- `MOV.L @(d:16,ERs),ERd`, encoding `0100 6F 0ers 0erd d16` (R207). -/
  | movLLoadDisp16 (disp : BitVec 16) (ers : ERn) (erd : ERn)
  /-- `MOV.L @(d:24,ERs),ERd`, encoding `0100 78 0ers 0 6B 2 0erd 00 d24` (R208). -/
  | movLLoadDisp24 (disp : BitVec 24) (ers : ERn) (erd : ERn)
  /-- `MOV.L @ERs+,ERd`, encoding `0100 6D 0ers 0erd` (R209). -/
  | movLLoadPostInc (ers : ERn) (erd : ERn)
  /-- `MOV.L @aa:16,ERd`, encoding `0100 6B 0 0erd abs16` (R210). -/
  | movLLoadAbs16 (abs : BitVec 16) (erd : ERn)
  /-- `MOV.L @aa:24,ERd`, encoding `0100 6B 2 0erd 00 abs24` (R211). -/
  | movLLoadAbs24 (abs : BitVec 24) (erd : ERn)
  /-- `MOV.L ERs,@-ERd`, encoding `0100 6D 1erd 0ers` (R212). -/
  | movLStorePreDec (ers : ERn) (erd : ERn)
  /-- `MOV.L ERs,@ERd`, encoding `0100 69 1erd 0ers` (R213). -/
  | movLStoreInd (ers : ERn) (erd : ERn)
  /-- `MOV.L ERs,@(d:16,ERd)`, encoding `0100 6F 1erd 0ers d16` (R214). -/
  | movLStoreDisp16 (ers : ERn) (disp : BitVec 16) (erd : ERn)
  /-- `MOV.L ERs,@(d:24,ERd)`, encoding `0100 78 0erd 0 6B A 0ers 00 d24` (R215). -/
  | movLStoreDisp24 (ers : ERn) (disp : BitVec 24) (erd : ERn)
  /-- `MOV.L ERs,@aa:16`, encoding `0100 6B 8 0ers abs16` (R216). -/
  | movLStoreAbs16 (ers : ERn) (abs : BitVec 16)
  /-- `MOV.L ERs,@aa:24`, encoding `0100 6B A 0ers 00 abs24` (R219). -/
  | movLStoreAbs24 (ers : ERn) (abs : BitVec 24)
  /-- `PUSH.W Rn`, encoding `6D F rn` (R217). -/
  | pushW (rn : Reg16)
  /-- `PUSH.L ERn`, encoding `0100 6D F 0ern` (R218). -/
  | pushL (ern : ERn)
  /-- `POP.W Rn`, encoding `6D 7 rn` (R220). -/
  | popW (rn : Reg16)
  /-- `POP.L ERn`, encoding `0100 6D 7 0ern` (R221). -/
  | popL (ern : ERn)
  /-- `MOVFPE @aa:16,Rd`, encoding `6A 4 rd abs16` (R222). -/
  | movfpe (abs : BitVec 16) (rd : Reg8)
  /-- `MOVTPE Rs,@aa:16`, encoding `6A C rs abs16` (R223). -/
  | movtpe (rs : Reg8) (abs : BitVec 16)
  /-- `ADD.B #xx:8,Rd`, encoding `8 rd imm8` (R231). -/
  | addBImm (imm : BitVec 8) (rd : Reg8)
  /-- `ADD.B Rs,Rd`, encoding `08 rs rd` (R232). -/
  | addBReg (rs : Reg8) (rd : Reg8)
  /-- `ADD.W #xx:16,Rd`, encoding `79 1 rd imm16` (R233). -/
  | addWImm (imm : BitVec 16) (rd : Reg16)
  /-- `ADD.W Rs,Rd`, encoding `09 rs rd` (R234). -/
  | addWReg (rs : Reg16) (rd : Reg16)
  /-- `ADD.L #xx:32,ERd`, encoding `7A 1 0erd imm32` (R235). -/
  | addLImm (imm : BitVec 32) (erd : ERn)
  /-- `ADD.L ERs,ERd`, encoding `0A 1ers 0erd` (R236). -/
  | addLReg (ers : ERn) (erd : ERn)
  /-- `ADDS #1,ERd`, encoding `0B 0 0erd` (R237). -/
  | adds1 (erd : ERn)
  /-- `ADDS #2,ERd`, encoding `0B 8 0erd` (R238). -/
  | adds2 (erd : ERn)
  /-- `ADDS #4,ERd`, encoding `0B 9 0erd` (R239). -/
  | adds4 (erd : ERn)
  /-- `ADDX #xx:8,Rd`, encoding `9 rd imm8` (R240). -/
  | addxImm (imm : BitVec 8) (rd : Reg8)
  /-- `ADDX Rs,Rd`, encoding `0E rs rd` (R241). -/
  | addxReg (rs : Reg8) (rd : Reg8)
  /-- `CMP.B #xx:8,Rd`, encoding `A rd imm8` (R242). -/
  | cmpBImm (imm : BitVec 8) (rd : Reg8)
  /-- `CMP.B Rs,Rd`, encoding `1C rs rd` (R243). -/
  | cmpBReg (rs : Reg8) (rd : Reg8)
  /-- `CMP.W #xx:16,Rd`, encoding `79 2 rd imm16` (R244). -/
  | cmpWImm (imm : BitVec 16) (rd : Reg16)
  /-- `CMP.W Rs,Rd`, encoding `1D rs rd` (R245). -/
  | cmpWReg (rs : Reg16) (rd : Reg16)
  /-- `CMP.L #xx:32,ERd`, encoding `7A 2 0erd imm32` (R246). -/
  | cmpLImm (imm : BitVec 32) (erd : ERn)
  /-- `CMP.L ERs,ERd`, encoding `1F 1ers 0erd` (R247). -/
  | cmpLReg (ers : ERn) (erd : ERn)
  /-- `DAA Rd`, encoding `0F 0 rd` (R248). -/
  | daa (rd : Reg8)
  /-- `DAS Rd`, encoding `1F 0 rd` (R249). -/
  | das (rd : Reg8)
  /-- `DEC.B Rd`, encoding `1A 0 rd` (R250). -/
  | decB (rd : Reg8)
  /-- `DEC.W #1,Rd`, encoding `1B 5 rd` (R251). -/
  | decW1 (rd : Reg16)
  /-- `DEC.W #2,Rd`, encoding `1B D rd` (R252). -/
  | decW2 (rd : Reg16)
  /-- `DEC.L #1,ERd`, encoding `1B 7 0erd` (R253). -/
  | decL1 (erd : ERn)
  /-- `DEC.L #2,ERd`, encoding `1B F 0erd` (R254). -/
  | decL2 (erd : ERn)
  /-- `DIVXS.B Rs,Rd`, encoding `01D0 51 rs rd` (R255). -/
  | divxsBReg (rs : Reg8) (rd : Reg16)
  /-- `DIVXS.W Rs,ERd`, encoding `01D0 53 rs 0erd` (R256). -/
  | divxsWReg (rs : Reg16) (erd : ERn)
  /-- `DIVXU.B Rs,Rd`, encoding `51 rs rd` (R258). -/
  | divxuBReg (rs : Reg8) (rd : Reg16)
  /-- `DIVXU.W Rs,ERd`, encoding `53 rs 0erd` (R259). -/
  | divxuWReg (rs : Reg16) (erd : ERn)
  /-- `EXTS.W Rd`, encoding `17 D rd` (R261). -/
  | extsW (rd : Reg16)
  /-- `EXTS.L ERd`, encoding `17 F 0erd` (R262). -/
  | extsL (erd : ERn)
  /-- `EXTU.W Rd`, encoding `17 5 rd` (R263). -/
  | extuW (rd : Reg16)
  /-- `EXTU.L ERd`, encoding `17 7 0erd` (R264). -/
  | extuL (erd : ERn)
  /-- `INC.B Rd`, encoding `0A 0 rd` (R265). -/
  | incB (rd : Reg8)
  /-- `INC.W #1,Rd`, encoding `0B 5 rd` (R266). -/
  | incW1 (rd : Reg16)
  /-- `INC.W #2,Rd`, encoding `0B D rd` (R267). -/
  | incW2 (rd : Reg16)
  /-- `INC.L #1,ERd`, encoding `0B 7 0erd` (R268). -/
  | incL1 (erd : ERn)
  /-- `INC.L #2,ERd`, encoding `0B F 0erd` (R269). -/
  | incL2 (erd : ERn)
  /-- `MULXS.B Rs,Rd`, encoding `01C0 50 rs rd` (R270). -/
  | mulxsBReg (rs : Reg8) (rd : Reg16)
  /-- `MULXS.W Rs,ERd`, encoding `01C0 52 rs 0erd` (R271). -/
  | mulxsWReg (rs : Reg16) (erd : ERn)
  /-- `MULXU.B Rs,Rd`, encoding `50 rs rd` (R272). -/
  | mulxuBReg (rs : Reg8) (rd : Reg16)
  /-- `MULXU.W Rs,ERd`, encoding `52 rs 0erd` (R273). -/
  | mulxuWReg (rs : Reg16) (erd : ERn)
  /-- `NEG.B Rd`, encoding `17 8 rd` (R274). -/
  | negB (rd : Reg8)
  /-- `NEG.W Rd`, encoding `17 9 rd` (R275). -/
  | negW (rd : Reg16)
  /-- `NEG.L ERd`, encoding `17 B 0erd` (R276). -/
  | negL (erd : ERn)
  /-- `SUB.B Rs,Rd`, encoding `18 rs rd` (R277). -/
  | subBReg (rs : Reg8) (rd : Reg8)
  /-- `SUB.W #xx:16,Rd`, encoding `79 3 rd imm16` (R278). -/
  | subWImm (imm : BitVec 16) (rd : Reg16)
  /-- `SUB.W Rs,Rd`, encoding `19 rs rd` (R279). -/
  | subWReg (rs : Reg16) (rd : Reg16)
  /-- `SUB.L #xx:32,ERd`, encoding `7A 3 0erd imm32` (R280). -/
  | subLImm (imm : BitVec 32) (erd : ERn)
  /-- `SUB.L ERs,ERd`, encoding `1A 1ers 0erd` (R281). -/
  | subLReg (ers : ERn) (erd : ERn)
  /-- `SUBS #1,ERd`, encoding `1B 0 0erd` (R282). -/
  | subs1 (erd : ERn)
  /-- `SUBS #2,ERd`, encoding `1B 8 0erd` (R283). -/
  | subs2 (erd : ERn)
  /-- `SUBS #4,ERd`, encoding `1B 9 0erd` (R284). -/
  | subs4 (erd : ERn)
  /-- `SUBX #xx:8,Rd`, encoding `B rd imm8` (R285). -/
  | subxImm (imm : BitVec 8) (rd : Reg8)
  /-- `SUBX Rs,Rd`, encoding `1E rs rd` (R286). -/
  | subxReg (rs : Reg8) (rd : Reg8)
  /-- `AND.B #xx:8,Rd`, encoding `E rd imm8` (R301). -/
  | andBImm (imm : BitVec 8) (rd : Reg8)
  /-- `AND.B Rs,Rd`, encoding `16 rs rd` (R302). -/
  | andBReg (rs : Reg8) (rd : Reg8)
  /-- `AND.W #xx:16,Rd`, encoding `79 6 rd imm16` (R303). -/
  | andWImm (imm : BitVec 16) (rd : Reg16)
  /-- `AND.W Rs,Rd`, encoding `66 rs rd` (R304). -/
  | andWReg (rs : Reg16) (rd : Reg16)
  /-- `AND.L #xx:32,ERd`, encoding `7A 6 0erd imm32` (R305). -/
  | andLImm (imm : BitVec 32) (erd : ERn)
  /-- `AND.L ERs,ERd`, encoding `01F0 66 0ers 0erd` (R306). -/
  | andLReg (ers : ERn) (erd : ERn)
  /-- `OR.B #xx:8,Rd`, encoding `C rd imm8` (R307). -/
  | orBImm (imm : BitVec 8) (rd : Reg8)
  /-- `OR.B Rs,Rd`, encoding `14 rs rd` (R308). -/
  | orBReg (rs : Reg8) (rd : Reg8)
  /-- `OR.W #xx:16,Rd`, encoding `79 4 rd imm16` (R309). -/
  | orWImm (imm : BitVec 16) (rd : Reg16)
  /-- `OR.W Rs,Rd`, encoding `64 rs rd` (R310). -/
  | orWReg (rs : Reg16) (rd : Reg16)
  /-- `OR.L #xx:32,ERd`, encoding `7A 4 0erd imm32` (R311). -/
  | orLImm (imm : BitVec 32) (erd : ERn)
  /-- `OR.L ERs,ERd`, encoding `01F0 64 0ers 0erd` (R312). -/
  | orLReg (ers : ERn) (erd : ERn)
  /-- `XOR.B #xx:8,Rd`, encoding `D rd imm8` (R313). -/
  | xorBImm (imm : BitVec 8) (rd : Reg8)
  /-- `XOR.B Rs,Rd`, encoding `15 rs rd` (R314). -/
  | xorBReg (rs : Reg8) (rd : Reg8)
  /-- `XOR.W #xx:16,Rd`, encoding `79 5 rd imm16` (R315). -/
  | xorWImm (imm : BitVec 16) (rd : Reg16)
  /-- `XOR.W Rs,Rd`, encoding `65 rs rd` (R316). -/
  | xorWReg (rs : Reg16) (rd : Reg16)
  /-- `XOR.L #xx:32,ERd`, encoding `7A 5 0erd imm32` (R317). -/
  | xorLImm (imm : BitVec 32) (erd : ERn)
  /-- `XOR.L ERs,ERd`, encoding `01F0 65 0ers 0erd` (R318). -/
  | xorLReg (ers : ERn) (erd : ERn)
  /-- `NOT.B Rd`, encoding `17 0 rd` (R319). -/
  | notB (rd : Reg8)
  /-- `NOT.W Rd`, encoding `17 1 rd` (R320). -/
  | notW (rd : Reg16)
  /-- `NOT.L ERd`, encoding `17 3 0erd` (R321). -/
  | notL (erd : ERn)
  /-- `SHAL.B Rd`, encoding `10 8 rd` (R323). -/
  | shalB (rd : Reg8)
  /-- `SHAL.W Rd`, encoding `10 9 rd` (R324). -/
  | shalW (rd : Reg16)
  /-- `SHAL.L ERd`, encoding `10 B 0erd` (R325). -/
  | shalL (erd : ERn)
  /-- `SHAR.B Rd`, encoding `11 8 rd` (R326). -/
  | sharB (rd : Reg8)
  /-- `SHAR.W Rd`, encoding `11 9 rd` (R327). -/
  | sharW (rd : Reg16)
  /-- `SHAR.L ERd`, encoding `11 B 0erd` (R328). -/
  | sharL (erd : ERn)
  /-- `SHLL.B Rd`, encoding `10 0 rd` (R329). -/
  | shllB (rd : Reg8)
  /-- `SHLL.W Rd`, encoding `10 1 rd` (R330). -/
  | shllW (rd : Reg16)
  /-- `SHLL.L ERd`, encoding `10 3 0erd` (R331). -/
  | shllL (erd : ERn)
  /-- `SHLR.B Rd`, encoding `11 0 rd` (R332). -/
  | shlrB (rd : Reg8)
  /-- `SHLR.W Rd`, encoding `11 1 rd` (R333). -/
  | shlrW (rd : Reg16)
  /-- `SHLR.L ERd`, encoding `11 3 0erd` (R334). -/
  | shlrL (erd : ERn)
  /-- `ROTL.B Rd`, encoding `12 8 rd` (R335). -/
  | rotlB (rd : Reg8)
  /-- `ROTL.W Rd`, encoding `12 9 rd` (R336). -/
  | rotlW (rd : Reg16)
  /-- `ROTL.L ERd`, encoding `12 B 0erd` (R337). -/
  | rotlL (erd : ERn)
  /-- `ROTR.B Rd`, encoding `13 8 rd` (R338). -/
  | rotrB (rd : Reg8)
  /-- `ROTR.W Rd`, encoding `13 9 rd` (R339). -/
  | rotrW (rd : Reg16)
  /-- `ROTR.L ERd`, encoding `13 B 0erd` (R340). -/
  | rotrL (erd : ERn)
  /-- `ROTXL.B Rd`, encoding `12 0 rd` (R341). -/
  | rotxlB (rd : Reg8)
  /-- `ROTXL.W Rd`, encoding `12 1 rd` (R342). -/
  | rotxlW (rd : Reg16)
  /-- `ROTXL.L ERd`, encoding `12 3 0erd` (R343). -/
  | rotxlL (erd : ERn)
  /-- `ROTXR.B Rd`, encoding `13 0 rd` (R344). -/
  | rotxrB (rd : Reg8)
  /-- `ROTXR.W Rd`, encoding `13 1 rd` (R345). -/
  | rotxrW (rd : Reg16)
  /-- `ROTXR.L ERd`, encoding `13 3 0erd` (R346). -/
  | rotxrL (erd : ERn)
  /-- `BSET #xx:3,Rd`, encoding `70 0imm3 rd` (R365). -/
  | bsetImmReg (imm : BitVec 3) (rd : Reg8)
  /-- `BSET #xx:3,@ERd`, encoding `7D 0erd 0 70 0imm3 0` (R365). -/
  | bsetImmInd (imm : BitVec 3) (erd : ERn)
  /-- `BSET #xx:3,@aa:8`, encoding `7F abs8 70 0imm3 0` (R365). -/
  | bsetImmAbs8 (imm : BitVec 3) (abs : BitVec 8)
  /-- `BSET Rn,Rd`, encoding `60 rn rd` (R366). -/
  | bsetRegReg (rn : Reg8) (rd : Reg8)
  /-- `BSET Rn,@ERd`, encoding `7D 0erd 0 60 rn 0` (R366). -/
  | bsetRegInd (rn : Reg8) (erd : ERn)
  /-- `BSET Rn,@aa:8`, encoding `7F abs8 60 rn 0` (R366). -/
  | bsetRegAbs8 (rn : Reg8) (abs : BitVec 8)
  /-- `BCLR #xx:3,Rd`, encoding `72 0imm3 rd` (R367). -/
  | bclrImmReg (imm : BitVec 3) (rd : Reg8)
  /-- `BCLR #xx:3,@ERd`, encoding `7D 0erd 0 72 0imm3 0` (R367). -/
  | bclrImmInd (imm : BitVec 3) (erd : ERn)
  /-- `BCLR #xx:3,@aa:8`, encoding `7F abs8 72 0imm3 0` (R367). -/
  | bclrImmAbs8 (imm : BitVec 3) (abs : BitVec 8)
  /-- `BCLR Rn,Rd`, encoding `62 rn rd` (R368). -/
  | bclrRegReg (rn : Reg8) (rd : Reg8)
  /-- `BCLR Rn,@ERd`, encoding `7D 0erd 0 62 rn 0` (R368). -/
  | bclrRegInd (rn : Reg8) (erd : ERn)
  /-- `BCLR Rn,@aa:8`, encoding `7F abs8 62 rn 0` (R368). -/
  | bclrRegAbs8 (rn : Reg8) (abs : BitVec 8)
  /-- `BNOT #xx:3,Rd`, encoding `71 0imm3 rd` (R369). -/
  | bnotImmReg (imm : BitVec 3) (rd : Reg8)
  /-- `BNOT #xx:3,@ERd`, encoding `7D 0erd 0 71 0imm3 0` (R369). -/
  | bnotImmInd (imm : BitVec 3) (erd : ERn)
  /-- `BNOT #xx:3,@aa:8`, encoding `7F abs8 71 0imm3 0` (R369). -/
  | bnotImmAbs8 (imm : BitVec 3) (abs : BitVec 8)
  /-- `BNOT Rn,Rd`, encoding `61 rn rd` (R370). -/
  | bnotRegReg (rn : Reg8) (rd : Reg8)
  /-- `BNOT Rn,@ERd`, encoding `7D 0erd 0 61 rn 0` (R370). -/
  | bnotRegInd (rn : Reg8) (erd : ERn)
  /-- `BNOT Rn,@aa:8`, encoding `7F abs8 61 rn 0` (R370). -/
  | bnotRegAbs8 (rn : Reg8) (abs : BitVec 8)
  /-- `BTST #xx:3,Rd`, encoding `73 0imm3 rd` (R371). -/
  | btstImmReg (imm : BitVec 3) (rd : Reg8)
  /-- `BTST #xx:3,@ERd`, encoding `7C 0erd 0 73 0imm3 0` (R371). -/
  | btstImmInd (imm : BitVec 3) (erd : ERn)
  /-- `BTST #xx:3,@aa:8`, encoding `7E abs8 73 0imm3 0` (R371). -/
  | btstImmAbs8 (imm : BitVec 3) (abs : BitVec 8)
  /-- `BTST Rn,Rd`, encoding `63 rn rd` (R372). -/
  | btstRegReg (rn : Reg8) (rd : Reg8)
  /-- `BTST Rn,@ERd`, encoding `7C 0erd 0 63 rn 0` (R372). -/
  | btstRegInd (rn : Reg8) (erd : ERn)
  /-- `BTST Rn,@aa:8`, encoding `7E abs8 63 rn 0` (R372). -/
  | btstRegAbs8 (rn : Reg8) (abs : BitVec 8)
  /-- `BAND #xx:3,Rd`, encoding `76 0imm3 rd` (R373). -/
  | bandImmReg (imm : BitVec 3) (rd : Reg8)
  /-- `BAND #xx:3,@ERd`, encoding `7C 0erd 0 76 0imm3 0` (R373). -/
  | bandImmInd (imm : BitVec 3) (erd : ERn)
  /-- `BAND #xx:3,@aa:8`, encoding `7E abs8 76 0imm3 0` (R373). -/
  | bandImmAbs8 (imm : BitVec 3) (abs : BitVec 8)
  /-- `BIAND #xx:3,Rd`, encoding `76 1imm3 rd` (R374). -/
  | biandImmReg (imm : BitVec 3) (rd : Reg8)
  /-- `BIAND #xx:3,@ERd`, encoding `7C 0erd 0 76 1imm3 0` (R374). -/
  | biandImmInd (imm : BitVec 3) (erd : ERn)
  /-- `BIAND #xx:3,@aa:8`, encoding `7E abs8 76 1imm3 0` (R374). -/
  | biandImmAbs8 (imm : BitVec 3) (abs : BitVec 8)
  /-- `BOR #xx:3,Rd`, encoding `74 0imm3 rd` (R375). -/
  | borImmReg (imm : BitVec 3) (rd : Reg8)
  /-- `BOR #xx:3,@ERd`, encoding `7C 0erd 0 74 0imm3 0` (R375). -/
  | borImmInd (imm : BitVec 3) (erd : ERn)
  /-- `BOR #xx:3,@aa:8`, encoding `7E abs8 74 0imm3 0` (R375). -/
  | borImmAbs8 (imm : BitVec 3) (abs : BitVec 8)
  /-- `BIOR #xx:3,Rd`, encoding `74 1imm3 rd` (R376). -/
  | biorImmReg (imm : BitVec 3) (rd : Reg8)
  /-- `BIOR #xx:3,@ERd`, encoding `7C 0erd 0 74 1imm3 0` (R376). -/
  | biorImmInd (imm : BitVec 3) (erd : ERn)
  /-- `BIOR #xx:3,@aa:8`, encoding `7E abs8 74 1imm3 0` (R376). -/
  | biorImmAbs8 (imm : BitVec 3) (abs : BitVec 8)
  /-- `BXOR #xx:3,Rd`, encoding `75 0imm3 rd` (R377). -/
  | bxorImmReg (imm : BitVec 3) (rd : Reg8)
  /-- `BXOR #xx:3,@ERd`, encoding `7C 0erd 0 75 0imm3 0` (R377). -/
  | bxorImmInd (imm : BitVec 3) (erd : ERn)
  /-- `BXOR #xx:3,@aa:8`, encoding `7E abs8 75 0imm3 0` (R377). -/
  | bxorImmAbs8 (imm : BitVec 3) (abs : BitVec 8)
  /-- `BIXOR #xx:3,Rd`, encoding `75 1imm3 rd` (R378). -/
  | bixorImmReg (imm : BitVec 3) (rd : Reg8)
  /-- `BIXOR #xx:3,@ERd`, encoding `7C 0erd 0 75 1imm3 0` (R378). -/
  | bixorImmInd (imm : BitVec 3) (erd : ERn)
  /-- `BIXOR #xx:3,@aa:8`, encoding `7E abs8 75 1imm3 0` (R378). -/
  | bixorImmAbs8 (imm : BitVec 3) (abs : BitVec 8)
  /-- `BLD #xx:3,Rd`, encoding `77 0imm3 rd` (R379). -/
  | bldImmReg (imm : BitVec 3) (rd : Reg8)
  /-- `BLD #xx:3,@ERd`, encoding `7C 0erd 0 77 0imm3 0` (R379). -/
  | bldImmInd (imm : BitVec 3) (erd : ERn)
  /-- `BLD #xx:3,@aa:8`, encoding `7E abs8 77 0imm3 0` (R379). -/
  | bldImmAbs8 (imm : BitVec 3) (abs : BitVec 8)
  /-- `BILD #xx:3,Rd`, encoding `77 1imm3 rd` (R380). -/
  | bildImmReg (imm : BitVec 3) (rd : Reg8)
  /-- `BILD #xx:3,@ERd`, encoding `7C 0erd 0 77 1imm3 0` (R380). -/
  | bildImmInd (imm : BitVec 3) (erd : ERn)
  /-- `BILD #xx:3,@aa:8`, encoding `7E abs8 77 1imm3 0` (R380). -/
  | bildImmAbs8 (imm : BitVec 3) (abs : BitVec 8)
  /-- `BST #xx:3,Rd`, encoding `67 0imm3 rd` (R381). -/
  | bstImmReg (imm : BitVec 3) (rd : Reg8)
  /-- `BST #xx:3,@ERd`, encoding `7D 0erd 0 67 0imm3 0` (R381). -/
  | bstImmInd (imm : BitVec 3) (erd : ERn)
  /-- `BST #xx:3,@aa:8`, encoding `7F abs8 67 0imm3 0` (R381). -/
  | bstImmAbs8 (imm : BitVec 3) (abs : BitVec 8)
  /-- `BIST #xx:3,Rd`, encoding `67 1imm3 rd` (R382). -/
  | bistImmReg (imm : BitVec 3) (rd : Reg8)
  /-- `BIST #xx:3,@ERd`, encoding `7D 0erd 0 67 1imm3 0` (R382). -/
  | bistImmInd (imm : BitVec 3) (erd : ERn)
  /-- `BIST #xx:3,@aa:8`, encoding `7F abs8 67 1imm3 0` (R382). -/
  | bistImmAbs8 (imm : BitVec 3) (abs : BitVec 8)
  /-- `BRA d:8`, encoding `4 0 d8` (R402). -/
  | braD8 (disp : BitVec 8)
  /-- `BRN d:8`, encoding `4 1 d8` (R402). -/
  | brnD8 (disp : BitVec 8)
  /-- `BHI d:8`, encoding `4 2 d8` (R402). -/
  | bhiD8 (disp : BitVec 8)
  /-- `BLS d:8`, encoding `4 3 d8` (R402). -/
  | blsD8 (disp : BitVec 8)
  /-- `BCC d:8`, encoding `4 4 d8` (R402). -/
  | bccD8 (disp : BitVec 8)
  /-- `BCS d:8`, encoding `4 5 d8` (R402). -/
  | bcsD8 (disp : BitVec 8)
  /-- `BNE d:8`, encoding `4 6 d8` (R402). -/
  | bneD8 (disp : BitVec 8)
  /-- `BEQ d:8`, encoding `4 7 d8` (R402). -/
  | beqD8 (disp : BitVec 8)
  /-- `BVC d:8`, encoding `4 8 d8` (R402). -/
  | bvcD8 (disp : BitVec 8)
  /-- `BVS d:8`, encoding `4 9 d8` (R402). -/
  | bvsD8 (disp : BitVec 8)
  /-- `BPL d:8`, encoding `4 A d8` (R402). -/
  | bplD8 (disp : BitVec 8)
  /-- `BMI d:8`, encoding `4 B d8` (R402). -/
  | bmiD8 (disp : BitVec 8)
  /-- `BGE d:8`, encoding `4 C d8` (R402). -/
  | bgeD8 (disp : BitVec 8)
  /-- `BLT d:8`, encoding `4 D d8` (R402). -/
  | bltD8 (disp : BitVec 8)
  /-- `BGT d:8`, encoding `4 E d8` (R402). -/
  | bgtD8 (disp : BitVec 8)
  /-- `BLE d:8`, encoding `4 F d8` (R402). -/
  | bleD8 (disp : BitVec 8)
  /-- `BRA d:16`, encoding `58 0 0 d16` (R403). -/
  | braD16 (disp : BitVec 16)
  /-- `BRN d:16`, encoding `58 1 0 d16` (R403). -/
  | brnD16 (disp : BitVec 16)
  /-- `BHI d:16`, encoding `58 2 0 d16` (R403). -/
  | bhiD16 (disp : BitVec 16)
  /-- `BLS d:16`, encoding `58 3 0 d16` (R403). -/
  | blsD16 (disp : BitVec 16)
  /-- `BCC d:16`, encoding `58 4 0 d16` (R403). -/
  | bccD16 (disp : BitVec 16)
  /-- `BCS d:16`, encoding `58 5 0 d16` (R403). -/
  | bcsD16 (disp : BitVec 16)
  /-- `BNE d:16`, encoding `58 6 0 d16` (R403). -/
  | bneD16 (disp : BitVec 16)
  /-- `BEQ d:16`, encoding `58 7 0 d16` (R403). -/
  | beqD16 (disp : BitVec 16)
  /-- `BVC d:16`, encoding `58 8 0 d16` (R403). -/
  | bvcD16 (disp : BitVec 16)
  /-- `BVS d:16`, encoding `58 9 0 d16` (R403). -/
  | bvsD16 (disp : BitVec 16)
  /-- `BPL d:16`, encoding `58 A 0 d16` (R403). -/
  | bplD16 (disp : BitVec 16)
  /-- `BMI d:16`, encoding `58 B 0 d16` (R403). -/
  | bmiD16 (disp : BitVec 16)
  /-- `BGE d:16`, encoding `58 C 0 d16` (R403). -/
  | bgeD16 (disp : BitVec 16)
  /-- `BLT d:16`, encoding `58 D 0 d16` (R403). -/
  | bltD16 (disp : BitVec 16)
  /-- `BGT d:16`, encoding `58 E 0 d16` (R403). -/
  | bgtD16 (disp : BitVec 16)
  /-- `BLE d:16`, encoding `58 F 0 d16` (R403). -/
  | bleD16 (disp : BitVec 16)
  /-- `BSR d:8`, encoding `55 d8` (R405). -/
  | bsrD8 (disp : BitVec 8)
  /-- `BSR d:16`, encoding `5C 00 d16` (R406). -/
  | bsrD16 (disp : BitVec 16)
  /-- `JMP @ERn`, encoding `59 0ern 0` (R407). -/
  | jmpInd (ern : ERn)
  /-- `JMP @aa:24`, encoding `5A abs24` (R408). -/
  | jmpAbs24 (abs : BitVec 24)
  /-- `JMP @@aa:8`, encoding `5B abs8` (R409). -/
  | jmpMemInd (abs : BitVec 8)
  /-- `JSR @ERn`, encoding `5D 0ern 0` (R410). -/
  | jsrInd (ern : ERn)
  /-- `JSR @aa:24`, encoding `5E abs24` (R411). -/
  | jsrAbs24 (abs : BitVec 24)
  /-- `JSR @@aa:8`, encoding `5F abs8` (R412). -/
  | jsrMemInd (abs : BitVec 8)
  /-- `RTS`, encoding `54 70` (R413). -/
  | rts
  /-- `TRAPA #x:2`, encoding `57 b00 imm2 0` (R431). -/
  | trapa (imm : BitVec 2)
  /-- `RTE`, encoding `56 70` (R432). -/
  | rte
  /-- `SLEEP`, encoding `01 80` (R433). -/
  | sleep
  /-- `LDC.B #xx:8,CCR`, encoding `07 imm8` (R434). -/
  | ldcBImm (imm : BitVec 8)
  /-- `LDC.B Rs,CCR`, encoding `03 0 rs` (R435). -/
  | ldcBReg (rs : Reg8)
  /-- `LDC.W @ERs,CCR`, encoding `0140 69 0ers 0` (R437). -/
  | ldcWLoadInd (ers : ERn)
  /-- `LDC.W @(d:16,ERs),CCR`, encoding `0140 6F 0ers 0 d16` (R438). -/
  | ldcWLoadDisp16 (disp : BitVec 16) (ers : ERn)
  /-- `LDC.W @(d:24,ERs),CCR`, encoding `0140 78 0ers 0 6B 2 0 00 d24` (R439). -/
  | ldcWLoadDisp24 (disp : BitVec 24) (ers : ERn)
  /-- `LDC.W @ERs+,CCR`, encoding `0140 6D 0ers 0` (R440). -/
  | ldcWLoadPostInc (ers : ERn)
  /-- `LDC.W @aa:16,CCR`, encoding `0140 6B 0 0 abs16` (R441). -/
  | ldcWLoadAbs16 (abs : BitVec 16)
  /-- `LDC.W @aa:24,CCR`, encoding `0140 6B 2 0 00 abs24` (R442). -/
  | ldcWLoadAbs24 (abs : BitVec 24)
  /-- `STC.B CCR,Rd`, encoding `02 0 rd` (R443). -/
  | stcBReg (rd : Reg8)
  /-- `STC.W CCR,@ERd`, encoding `0140 69 1erd 0` (R445). -/
  | stcWStoreInd (erd : ERn)
  /-- `STC.W CCR,@(d:16,ERd)`, encoding `0140 6F 1erd 0 d16` (R446). -/
  | stcWStoreDisp16 (disp : BitVec 16) (erd : ERn)
  /-- `STC.W CCR,@(d:24,ERd)`, encoding `0140 78 0erd 0 6B A 0 00 d24` (R448). -/
  | stcWStoreDisp24 (disp : BitVec 24) (erd : ERn)
  /-- `STC.W CCR,@-ERd`, encoding `0140 6D 1erd 0` (R449). -/
  | stcWStorePreDec (erd : ERn)
  /-- `STC.W CCR,@aa:16`, encoding `0140 6B 8 0 abs16` (R450). -/
  | stcWStoreAbs16 (abs : BitVec 16)
  /-- `STC.W CCR,@aa:24`, encoding `0140 6B A 0 00 abs24` (R451). -/
  | stcWStoreAbs24 (abs : BitVec 24)
  /-- `ANDC #xx:8,CCR`, encoding `06 imm8` (R452). -/
  | andc (imm : BitVec 8)
  /-- `ORC #xx:8,CCR`, encoding `04 imm8` (R453). -/
  | orc (imm : BitVec 8)
  /-- `XORC #xx:8,CCR`, encoding `05 imm8` (R454). -/
  | xorc (imm : BitVec 8)
  /-- `NOP`, encoding `00 00` (R455). -/
  | nop
  /-- `EEPMOV.B`, encoding `7B 5C 59 8F` (R470). -/
  | eepmovB
  /-- `EEPMOV.W`, encoding `7B D4 59 8F` (R471). -/
  | eepmovW
  deriving DecidableEq, Repr

end Sys2Proof
end

