-- ==== Sys2Proof/Machine/Ops.lean ====
section
/-! DEFINITION. The named operations over registers, memory, the program counter and the stack, and taking an exception
and returning from one (10_state.md, 20_memory.md, 45_branch.md R404, 60_exceptions.md R483 to R488, 70 R530). -/

namespace Sys2Proof.Machine

/-! ### Registers (R20 to R25) -/

/-- ERn of a register file. -/
def RegFile.get (r : RegFile) (n : ERn) : Long :=
  match n.toNat with
  | 0 => r.er0
  | 1 => r.er1
  | 2 => r.er2
  | 3 => r.er3
  | 4 => r.er4
  | 5 => r.er5
  | 6 => r.er6
  | _ => r.er7

/-- A register file with ERn replaced. -/
def RegFile.set (r : RegFile) (n : ERn) (x : Long) : RegFile :=
  match n.toNat with
  | 0 => { r with er0 := x }
  | 1 => { r with er1 := x }
  | 2 => { r with er2 := x }
  | 3 => { r with er3 := x }
  | 4 => { r with er4 := x }
  | 5 => { r with er5 := x }
  | 6 => { r with er6 := x }
  | _ => { r with er7 := x }

/-- ERn, all 32 bits (R21). -/
def State.er (s : State) (n : ERn) : Long := s.regs.get n

/-- Write ERn. -/
def State.setEr (s : State) (n : ERn) (x : Long) : State := { s with regs := s.regs.set n x }

/-- An 8-bit register: RnH is bits 15..8 of ERn, RnL bits 7..0 (R21, R23). -/
def State.reg8 (s : State) : Reg8 → Byte
  | .h n => (s.er n).extractLsb' 8 8
  | .l n => (s.er n).extractLsb' 0 8

/-- Write an 8-bit register: the rest of ERn is unchanged (R21). -/
def State.setReg8 (s : State) (r : Reg8) (x : Byte) : State :=
  match r with
  | .h n => s.setEr n ((s.er n).extractLsb' 16 16 ++ x ++ (s.er n).extractLsb' 0 8)
  | .l n => s.setEr n ((s.er n).extractLsb' 8 24 ++ x)

/-- A 16-bit register: Rn is bits 15..0 of ERn, En bits 31..16 (R21, R23). -/
def State.reg16 (s : State) : Reg16 → Word
  | .r n => (s.er n).extractLsb' 0 16
  | .e n => (s.er n).extractLsb' 16 16

/-- Write a 16-bit register: the rest of ERn is unchanged (R21). -/
def State.setReg16 (s : State) (r : Reg16) (x : Word) : State :=
  match r with
  | .r n => s.setEr n ((s.er n).extractLsb' 16 16 ++ x)
  | .e n => s.setEr n (x ++ (s.er n).extractLsb' 0 16)

/-- The stack pointer ER7 (R22). -/
def State.sp (s : State) : Long := s.er 7#3

/-- Write the stack pointer. -/
def State.setSp (s : State) (x : Long) : State := s.setEr 7#3 x

/-- A flag of CCR. -/
def State.flag (s : State) (f : Flag) : Bool := ccrGet s.ccr f

/-- Replace CCR. -/
def State.setCcr (s : State) (c : Byte) : State := { s with ccr := c }

/-- Replace one flag of CCR. -/
def State.setFlag (s : State) (f : Flag) (b : Bool) : State := { s with ccr := ccrSet s.ccr f b }

/-! ### Free values (R9, R11; log 6) -/

/-- Draw a free value. -/
def State.draw (s : State) : Long × State := (Config.freeLong s.draws, { s with draws := s.draws + 1 })

/-- Draw a free byte. -/
def State.drawByte (s : State) : Byte × State := (s.draw.1.setWidth 8, s.draw.2)

/-- ERn takes a free value. -/
def State.freeEr (s : State) (n : ERn) : State := s.draw.2.setEr n s.draw.1

/-! ### Addresses (R62, R64, R66) -/

/-- `AM`: the address mask of the mode (R66). -/
def State.am (s : State) (a : Addr) : Addr :=
  match s.mode with
  | .normal => (a.setWidth 16).setWidth 24
  | .advanced => a

/-- An address with bit 0 regarded as 0 (R62). -/
def evenAddr (a : Addr) : Addr := a &&& 0xFFFFFE#24

/-- The low 24 bits of a 32-bit register or sum (R66). -/
def low24 (x : Long) : Addr := x.setWidth 24

/-! ### Memory contents (R60) -/

/-- The written value of a byte, if it has one. -/
def Memory.lookup : List Host.Cell → Nat → Option Byte
  | [], _ => none
  | (k, b) :: m, a => if k = a then some b else Memory.lookup m a

/-- Write a byte, keeping the addresses strictly rising. -/
def Memory.insert : List Host.Cell → Nat → Byte → List Host.Cell
  | [], a, v => [(a, v)]
  | (k, b) :: m, a, v =>
    if a < k then (a, v) :: (k, b) :: m
    else if a = k then (a, v) :: m
    else (k, b) :: Memory.insert m a v

/-- The one canonical form of memory: strictly rising addresses, all of 24 bits. An address that is not listed holds no
written value, so no entry equals what an unlisted address holds (log 5). -/
abbrev Memory.wf (m : List Host.Cell) : Prop :=
  m.Pairwise (fun x y => x.1 < y.1) ∧ ∀ x ∈ m, x.1 < 2 ^ 24

/-- What the environment put at an address (R6 `MemMap`, D25, D29). -/
inductive AccessKind where
  /-- RAM: read and written. -/
  | memory
  /-- ROM: writes are dropped. -/
  | rom
  /-- A device register: the environment answers. -/
  | device
  /-- Nothing. -/
  | absent
  deriving DecidableEq, Repr

/-- Whether a region holds an address. -/
def regionHas (r : Region) (a : Addr) : Bool := decide (r.base ≤ a.toNat ∧ a.toNat < r.base + r.size)

/-- The kind of access a region gives. -/
def regionKind (r : Region) : AccessKind :=
  if r.cls = .absent then .absent
  else if r.device then .device
  else if r.readOnly then .rom
  else .memory

/-- The kind of access at a bus address: that of the first region that holds it; an address in no region is on-chip RAM
(log 4). -/
def State.accessKind (s : State) (a : Addr) : AccessKind :=
  match s.memMap.find? fun r => regionHas r a with
  | some r => regionKind r
  | none => .memory

/-- The content of a byte of RAM or ROM: what was written, else a free value that stays the same (D25, log 5). -/
def State.peek (s : State) (a : Addr) : Byte :=
  (Memory.lookup s.mem a.toNat).getD (Config.initialByte a.toNat)

/-- Read the byte at a bus address. A device or an absent address answers any value (D25, D29; log 7). -/
def State.readPhys (s : State) (a : Addr) : Byte × State :=
  match s.accessKind a with
  | .memory => (s.peek a, s)
  | .rom => (s.peek a, s)
  | .device => s.drawByte
  | .absent => s.drawByte

/-- Write the byte at a bus address. Writes to ROM and to absent addresses are dropped, a device absorbs them (D25, D29;
log 7). -/
def State.writePhys (s : State) (a : Addr) (v : Byte) : State :=
  match s.accessKind a with
  | .memory => { s with mem := Memory.insert s.mem a.toNat v }
  | .rom => s
  | .device => s
  | .absent => s

/-- The writes of another bus master (R79, D13); an address is taken modulo the address space. -/
def State.masterWrites (s : State) : List Host.Cell → State
  | [] => s
  | (k, v) :: ws => (s.writePhys (s.am (BitVec.ofNat 24 k)) v).masterWrites ws

/-- Before each data bus cycle other masters may have had the bus (R69, R79, D21; log 21). -/
def State.busTurn (s : State) : State :=
  match s.busScript with
  | [] => s
  | ws :: rest => ({ s with busScript := rest } : State).masterWrites ws

/-! ### Loads and stores (R64) -/

/-- `MemRead(a, 1)`. -/
def State.loadByte (s : State) (a : Addr) : Byte × State := s.busTurn.readPhys (s.am a)

/-- `MemRead(a, 2)`: bit 0 of the address regarded as 0, big-endian (R60, R62). One turn on the bus whatever its width: that
no other master acts between the two byte transfers on an 8-bit bus is the model's choice (R68, R545; DESIGN CHOICE,
log 37). -/
def State.loadWord (s : State) (a : Addr) : Word × State :=
  let b := evenAddr (s.am a)
  let hi := s.busTurn.readPhys b
  let lo := hi.2.readPhys (s.am (b + 1))
  (hi.1 ++ lo.1, lo.2)

/-- `MemRead(a, 4)`: two word cycles, the lower address first (R64, D15). -/
def State.loadLong (s : State) (a : Addr) : Long × State :=
  let b := evenAddr (s.am a)
  let hi := s.loadWord b
  let lo := hi.2.loadWord (b + 2)
  (hi.1 ++ lo.1, lo.2)

/-- `MemWrite(a, 1, v)`. -/
def State.storeByte (s : State) (a : Addr) (v : Byte) : State := s.busTurn.writePhys (s.am a) v

/-- `MemWrite(a, 2, v)`: one turn on the bus whatever its width (R68, R545; DESIGN CHOICE, log 37). -/
def State.storeWord (s : State) (a : Addr) (v : Word) : State :=
  let b := evenAddr (s.am a)
  (s.busTurn.writePhys b (v.extractLsb' 8 8)).writePhys (s.am (b + 1)) (v.extractLsb' 0 8)

/-- `MemWrite(a, 4, v)`: two word cycles, the lower address first. -/
def State.storeLong (s : State) (a : Addr) (v : Long) : State :=
  let b := evenAddr (s.am a)
  (s.storeWord b (v.extractLsb' 16 16)).storeWord (b + 2) (v.extractLsb' 0 16)

/-! ### The program counter (R27 to R30) -/

/-- The address of the instruction after one of `len` bytes, modulo the address space (R27, R29, D5). -/
def State.nextPc (s : State) (len : Addr) : Addr := s.am (s.pc + len)

/-- End an instruction of `len` bytes that does not transfer control. -/
def State.advance (s : State) (len : Addr) : State := { s with pc := s.nextPc len }

/-- `SetPC`: bit 0 cleared, bits 23..16 cleared in normal mode (R28, R30, D6, D7). -/
def State.setPc (s : State) (a : Addr) : State := { s with pc := evenAddr (s.am a) }

/-! ### Stack frames (R404, R487) -/

/-- `SubPush`: the frame of BSR and JSR. The reserved byte of the advanced-mode frame is a free value (D10, log 12). -/
def State.subPush (s : State) (ret : Addr) : State :=
  match s.mode with
  | .normal =>
    let s1 := s.setSp (s.sp - 2)
    s1.storeWord (low24 s1.sp) (ret.setWidth 16)
  | .advanced =>
    let s1 := s.drawByte.2.setSp (s.sp - 4)
    (s1.storeWord (low24 s1.sp) (s.drawByte.1 ++ ret.extractLsb' 16 8)).storeWord (low24 (s1.sp + 2))
      (ret.setWidth 16)

/-- `SubPop`: the return address RTS takes. -/
def State.subPop (s : State) : Addr × State :=
  match s.mode with
  | .normal =>
    let v := s.loadWord (low24 s.sp)
    (v.1.setWidth 24, v.2.setSp (s.sp + 2))
  | .advanced =>
    let v := s.loadLong (low24 s.sp)
    (low24 v.1, v.2.setSp (s.sp + 4))

/-- The byte at SP+1 of an exception frame: PC bits 23..16 in advanced mode; in normal mode the spec lets nothing be
relied on, so it is a free value (R487, D11, log 13). -/
def State.frameByte (s : State) (ret : Addr) : Byte × State :=
  match s.mode with
  | .normal => s.drawByte
  | .advanced => (ret.extractLsb' 16 8, s)

/-- `ExcPush`: the low word of PC first, at the higher address, then CCR with its companion byte (R487, C6). -/
def State.excPush (s : State) (ret : Addr) (c : Byte) : State :=
  let x := s.frameByte ret
  let s1 := x.2.setSp (s.sp - 2)
  let s2 := s1.storeWord (low24 s1.sp) (ret.setWidth 16)
  let s3 := s2.setSp (s2.sp - 2)
  s3.storeWord (low24 s3.sp) (c ++ x.1)

/-- `ExcPop`: CCR and PC from the frame (R487). In normal mode the companion byte is ignored. -/
def State.excPop (s : State) : Byte × Addr × State :=
  let h := s.loadWord (low24 s.sp)
  let l := h.2.loadWord (low24 (s.sp + 2))
  let pc : Addr :=
    match s.mode with
    | .normal => l.1.setWidth 24
    | .advanced => h.1.extractLsb' 0 8 ++ l.1
  (h.1.extractLsb' 8 8, pc, l.2.setSp (s.sp + 4))

/-! ### Taking an exception and returning from one (R483 to R488, R495) -/

/-- A branch address in memory: a word in normal mode, the low 24 bits of a longword in advanced mode (R73, R151, R484;
`VecFetch`). -/
def State.branchAddress (s : State) (p : Addr) : Addr × State :=
  match s.mode with
  | .normal => ((s.loadWord p).1.setWidth 24, (s.loadWord p).2)
  | .advanced => (low24 (s.loadLong p).1, (s.loadLong p).2)

/-- `TrapVector(x)` (R486). -/
def State.trapVector (s : State) (x : BitVec 2) : Addr :=
  match s.mode with
  | .normal => 0x10#24 + 2#24 * x.setWidth 24
  | .advanced => 0x20#24 + 4#24 * x.setWidth 24

/-- The mask bits an exception entry sets: I, and UI when it is a mask bit (R488, D2). -/
def State.maskInterrupts (s : State) : State :=
  if s.uiIsMask then (s.setFlag .i true).setFlag .ui true else s.setFlag .i true

/-- `ExceptionEntry(ret, vec)`, the one sequence of interrupt and TRAPA exception handling (R488): save PC and CCR, mask,
fetch the vector, branch. Nothing prefetched survives (R80). -/
def State.exceptionEntry (s : State) (ret vec : Addr) : State :=
  let s1 := (s.excPush ret s.ccr).maskInterrupts
  let t := s1.branchAddress vec
  { t.2.setPc t.1 with proc := .programExecution, stale := [] }

/-- Return from an exception: CCR and PC from the frame (R432, R495). -/
def State.exceptionReturn (s : State) : State :=
  let f := s.excPop
  (f.2.2.setCcr f.1).setPc f.2.1

/-! ### Reset (R44, R530, D8) -/

/-- Every general register takes a free value (D8, log 23). -/
def State.freeRegisters (s : State) : State :=
  (((((((s.freeEr 0#3).freeEr 1#3).freeEr 2#3).freeEr 3#3).freeEr 4#3).freeEr 5#3).freeEr 6#3).freeEr 7#3

/-- `ResetEntry`: I = 1, the other CCR bits and the general registers not initialised, PC from the vector at 0, no
interrupt before the first instruction has executed (R530). -/
def State.resetEntry (s : State) : State :=
  let s1 := s.freeRegisters
  let s2 := (s1.drawByte.2.setCcr s1.drawByte.1).setFlag .i true
  let t := s2.branchAddress 0#24
  { t.2.setPc t.1 with proc := .programExecution, inhibitInt := true, stale := [] }

end Sys2Proof.Machine
end

