-- ==== Sys2Proof/Machine/Operands.lean ====
section
/-! DEFINITION. Operand forms: effective addresses (40_addressing.md), the moves of each size through them
(41_data_transfer.md), the register forms of arithmetic, logic and shifts, and bit operands (44_bit.md R360 to R363). -/

namespace Sys2Proof.Machine

/-! ### Effective addresses (R140 to R146) -/

/-- @ERn (R142). -/
def State.eaInd (s : State) (n : ERn) : Addr := low24 (s.er n)

/-- @(d:16,ERn) (R143). -/
def State.eaDisp16 (s : State) (disp : Word) (n : ERn) : Addr := low24 (s.er n + disp.signExtend 32)

/-- @(d:24,ERn) (R143). -/
def State.eaDisp24 (s : State) (disp : Addr) (n : ERn) : Addr := low24 (s.er n + disp.signExtend 32)

/-- @aa:8: the upper 16 bits are all 1 (R146). -/
def eaAbs8 (a : Byte) : Addr := 0xFFFF#16 ++ a

/-- @aa:16: sign-extended (R146). -/
def eaAbs16 (a : Word) : Addr := a.signExtend 24

/-- @aa:24 (R146). -/
def eaAbs24 (a : Addr) : Addr := a

/-- @@aa:8: the operand's address, upper bits 0 (R151). -/
def eaMemInd (a : Byte) : Addr := a.setWidth 24

/-! ### Moves (R170 to R172) -/

/-- Set the flags of transferred data (R170). -/
def State.moveFlags {w : Nat} (s : State) (v : BitVec w) : State := s.setCcr (ccrMove s.ccr v)

/-- A byte into a register, flags set (R173). -/
def State.moveInto8 (s : State) (rd : Reg8) (v : Byte) : State := (s.setReg8 rd v).moveFlags v

/-- A word into a register, flags set (R189). -/
def State.moveInto16 (s : State) (rd : Reg16) (v : Word) : State := (s.setReg16 rd v).moveFlags v

/-- A longword into a register, flags set (R204). -/
def State.moveInto32 (s : State) (rd : ERn) (v : Long) : State := (s.setEr rd v).moveFlags v

/-- Load a byte (R175). -/
def State.loadInto8 (s : State) (ea : Addr) (rd : Reg8) : State := (s.loadByte ea).2.moveInto8 rd (s.loadByte ea).1

/-- Load a word (R191). -/
def State.loadInto16 (s : State) (ea : Addr) (rd : Reg16) : State :=
  (s.loadWord ea).2.moveInto16 rd (s.loadWord ea).1

/-- Load a longword (R206). -/
def State.loadInto32 (s : State) (ea : Addr) (rd : ERn) : State := (s.loadLong ea).2.moveInto32 rd (s.loadLong ea).1

/-- Store a byte, flags set from it (R182). -/
def State.storeFrom8 (s : State) (ea : Addr) (v : Byte) : State := (s.storeByte ea v).moveFlags v

/-- Store a word, flags set from it (R197). -/
def State.storeFrom16 (s : State) (ea : Addr) (v : Word) : State := (s.storeWord ea v).moveFlags v

/-- Store a longword, flags set from it (R213). -/
def State.storeFrom32 (s : State) (ea : Addr) (v : Long) : State := (s.storeLong ea v).moveFlags v

/-- @ERs+, byte (R144, R178). Where the destination is part of the pointer, the register takes a free value (R172, D24,
log 10). -/
def State.loadPostInc8 (s : State) (ers : ERn) (rd : Reg8) : State :=
  let v := s.loadByte (s.eaInd ers)
  let s1 := v.2.setEr ers (s.er ers + 1)
  (if rd.whole = ers then s1.freeEr ers else s1.setReg8 rd v.1).moveFlags v.1

/-- @ERs+, word (R144, R194, R172, D24). -/
def State.loadPostInc16 (s : State) (ers : ERn) (rd : Reg16) : State :=
  let v := s.loadWord (s.eaInd ers)
  let s1 := v.2.setEr ers (s.er ers + 2)
  (if rd.whole = ers then s1.freeEr ers else s1.setReg16 rd v.1).moveFlags v.1

/-- @ERs+, longword (R144, R209, R172, D24). -/
def State.loadPostInc32 (s : State) (ers : ERn) (erd : ERn) : State :=
  let v := s.loadLong (s.eaInd ers)
  let s1 := v.2.setEr ers (s.er ers + 4)
  (if erd = ers then s1.freeEr ers else s1.setEr erd v.1).moveFlags v.1

/-- @-ERd, byte: the source is read after the decrement (R145, R183). -/
def State.storePreDec8 (s : State) (rs : Reg8) (erd : ERn) : State :=
  let s1 := s.setEr erd (s.er erd - 1)
  s1.storeFrom8 (s1.eaInd erd) (s1.reg8 rs)

/-- @-ERd, word: the source is read after the decrement (R145, R198, R217). -/
def State.storePreDec16 (s : State) (rs : Reg16) (erd : ERn) : State :=
  let s1 := s.setEr erd (s.er erd - 2)
  s1.storeFrom16 (s1.eaInd erd) (s1.reg16 rs)

/-- @-ERd, longword: the source is read after the decrement (R145, R212, R218). -/
def State.storePreDec32 (s : State) (ers : ERn) (erd : ERn) : State :=
  let s1 := s.setEr erd (s.er erd - 4)
  s1.storeFrom32 (s1.eaInd erd) (s1.er ers)

/-! ### Arithmetic results into registers (R231 to R286) -/

/-- A byte result with H, N, Z, V, C. -/
def State.alu8 (s : State) (rd : Reg8) (x : AluResult 8) : State := (s.setReg8 rd x.value).setCcr (ccrAlu s.ccr x)

/-- A byte result of ADDX or SUBX. -/
def State.aluX8 (s : State) (rd : Reg8) (x : AluResult 8) : State := (s.setReg8 rd x.value).setCcr (ccrAluX s.ccr x)

/-- A word result with H, N, Z, V, C. -/
def State.alu16 (s : State) (rd : Reg16) (x : AluResult 16) : State :=
  (s.setReg16 rd x.value).setCcr (ccrAlu s.ccr x)

/-- A longword result with H, N, Z, V, C. -/
def State.alu32 (s : State) (rd : ERn) (x : AluResult 32) : State := (s.setEr rd x.value).setCcr (ccrAlu s.ccr x)

/-- The flags of a comparison (R242 to R247). -/
def State.compare {w : Nat} (s : State) (x : AluResult w) : State := s.setCcr (ccrAlu s.ccr x)

/-- INC of a byte by `k` (R265). -/
def State.inc8 (s : State) (rd : Reg8) (k : Byte) : State :=
  let d := s.reg8 rd
  (s.setReg8 rd (d + k)).setCcr (ccrInc s.ccr d (d + k))

/-- INC of a word by `k` (R266, R267). -/
def State.inc16 (s : State) (rd : Reg16) (k : Word) : State :=
  let d := s.reg16 rd
  (s.setReg16 rd (d + k)).setCcr (ccrInc s.ccr d (d + k))

/-- INC of a longword by `k` (R268, R269). -/
def State.inc32 (s : State) (rd : ERn) (k : Long) : State :=
  let d := s.er rd
  (s.setEr rd (d + k)).setCcr (ccrInc s.ccr d (d + k))

/-- DEC of a byte by `k` (R250). -/
def State.dec8 (s : State) (rd : Reg8) (k : Byte) : State :=
  let d := s.reg8 rd
  (s.setReg8 rd (d - k)).setCcr (ccrDec s.ccr d (d - k))

/-- DEC of a word by `k` (R251, R252). -/
def State.dec16 (s : State) (rd : Reg16) (k : Word) : State :=
  let d := s.reg16 rd
  (s.setReg16 rd (d - k)).setCcr (ccrDec s.ccr d (d - k))

/-- DEC of a longword by `k` (R253, R254). -/
def State.dec32 (s : State) (rd : ERn) (k : Long) : State :=
  let d := s.er rd
  (s.setEr rd (d - k)).setCcr (ccrDec s.ccr d (d - k))

/-- DAA and DAS. Inside the table: Rd, N, Z by the row, C as `keepC` says, H and V free. Outside it: Rd and H, N, Z, V, C
free (R248, R249, R299, D18; log 9). -/
def State.decimal (s : State) (rd : Reg8) (t : List DecimalRow) (keepC : Bool) : State :=
  let x := s.reg8 rd
  let f := s.drawByte
  match decimalRow t (s.flag .c) (s.flag .h) x with
  | some row =>
    let r := x + row.added
    let c1 := ccrNZ s.ccr r.msb (decide (r = 0#8))
    let c2 := ccrSet c1 .c (if keepC then s.flag .c else row.cAfter)
    let c3 := ccrSet (ccrSet c2 .h (f.1.getLsbD 0)) .v (f.1.getLsbD 1)
    (f.2.setReg8 rd r).setCcr c3
  | none =>
    let g := f.2.drawByte
    let c1 := ccrSet (ccrSet s.ccr .h (f.1.getLsbD 0)) .v (f.1.getLsbD 1)
    let c2 := ccrSet (ccrNZ c1 (f.1.getLsbD 2) (f.1.getLsbD 3)) .c (f.1.getLsbD 4)
    (g.2.setReg8 rd g.1).setCcr c2

/-- The destination of a word-by-byte division: remainder in the upper byte, quotient in the lower; a free value where
the result is not guaranteed (R255, R258, R257, R260, D17; log 8). -/
def State.divInto16 (s : State) (rd : Reg16) (x : Option (Byte × Byte)) : State :=
  match x with
  | some (rem, quot) => s.setReg16 rd (rem ++ quot)
  | none => s.draw.2.setReg16 rd (s.draw.1.setWidth 16)

/-- The destination of a longword-by-word division (R256, R259, R257, R260, D17; log 8). -/
def State.divInto32 (s : State) (rd : ERn) (x : Option (Word × Word)) : State :=
  match x with
  | some (rem, quot) => s.setEr rd (rem ++ quot)
  | none => s.freeEr rd

/-- Replace N and Z. -/
def State.setNZ (s : State) (n z : Bool) : State := s.setCcr (ccrNZ s.ccr n z)

/-! ### Logic and shifts into registers (R300, R322) -/

/-- A byte result with N, Z, V = 0. -/
def State.logic8 (s : State) (rd : Reg8) (r : Byte) : State := (s.setReg8 rd r).setCcr (ccrLogic s.ccr r)

/-- A word result with N, Z, V = 0. -/
def State.logic16 (s : State) (rd : Reg16) (r : Word) : State := (s.setReg16 rd r).setCcr (ccrLogic s.ccr r)

/-- A longword result with N, Z, V = 0. -/
def State.logic32 (s : State) (rd : ERn) (r : Long) : State := (s.setEr rd r).setCcr (ccrLogic s.ccr r)

/-- A shifted byte with N, Z, V, C. -/
def State.shift8 (s : State) (rd : Reg8) (x : ShiftResult 8) : State :=
  (s.setReg8 rd x.value).setCcr (ccrShift s.ccr x)

/-- A shifted word with N, Z, V, C. -/
def State.shift16 (s : State) (rd : Reg16) (x : ShiftResult 16) : State :=
  (s.setReg16 rd x.value).setCcr (ccrShift s.ccr x)

/-- A shifted longword with N, Z, V, C. -/
def State.shift32 (s : State) (rd : ERn) (x : ShiftResult 32) : State :=
  (s.setEr rd x.value).setCcr (ccrShift s.ccr x)

/-! ### Bit operands (R360 to R364) -/

/-- `BitOperandModify` on a register (R363). -/
def State.modifyReg (s : State) (rd : Reg8) (f : Byte → Byte) : State := s.setReg8 rd (f (s.reg8 rd))

/-- `BitOperandModify` on memory: one byte read, then one byte write of the whole byte (R363, R69). -/
def State.modifyMem (s : State) (ea : Addr) (f : Byte → Byte) : State :=
  (s.loadByte ea).2.storeByte ea (f (s.loadByte ea).1)

/-- Z from a bit: 1 when the bit is 0 (R371). -/
def State.testBit (s : State) (x : Byte) (n : BitVec 3) : State := s.setFlag .z (!byteBit x n)

/-- C from an operation on C and a bit (R373 to R380). -/
def State.carryBit (s : State) (x : Byte) (n : BitVec 3) (f : Bool → Bool → Bool) : State :=
  s.setFlag .c (f (s.flag .c) (byteBit x n))

/-- A carry operation on a byte of memory: one byte read (R362). -/
def State.carryBitMem (s : State) (ea : Addr) (n : BitVec 3) (f : Bool → Bool → Bool) : State :=
  (s.loadByte ea).2.carryBit (s.loadByte ea).1 n f

/-- BTST on a byte of memory: one byte read (R362). -/
def State.testBitMem (s : State) (ea : Addr) (n : BitVec 3) : State := (s.loadByte ea).2.testBit (s.loadByte ea).1 n

/-! ### Branches (R150, R402, R403) -/

/-- A PC-relative target: the displacement, sign-extended, plus the address of the next instruction (R150). -/
def State.relTarget {w : Nat} (s : State) (len : Addr) (disp : BitVec w) : Addr := s.nextPc len + disp.signExtend 24

/-- Bcc: branch when the condition holds (R402, R403). -/
def State.branchIf {w : Nat} (s : State) (cc : BitVec 4) (len : Addr) (disp : BitVec w) : State :=
  if branchCond cc s.ccr then s.setPc (s.relTarget len disp) else s.advance len

/-- Call a subroutine at `target`, returning to the address after an instruction of `len` bytes (R405 to R412). -/
def State.call (s : State) (len target : Addr) : State := (s.subPush (s.nextPc len)).setPc target

/-! ### CCR in memory (R436, R444) -/

/-- `LdcW`: the byte at the even address goes to CCR; interrupts are inhibited for one boundary (R436, R491). -/
def State.ldcW (s : State) (ea : Addr) : State :=
  { (s.loadWord ea).2.setCcr ((s.loadWord ea).1.extractLsb' 8 8) with inhibitInt := true }

/-- `StcW`: CCR at the even address, a free byte at the odd one (R444, R447, D9; log 11). -/
def State.stcW (s : State) (ea : Addr) : State := s.drawByte.2.storeWord ea (s.ccr ++ s.drawByte.1)

/-- CCR written by LDC.B, ANDC, ORC, XORC: interrupts are inhibited for one boundary (R434, R452 to R454, R491). -/
def State.loadCcr (s : State) (c : Byte) : State := { s.setCcr c with inhibitInt := true }

end Sys2Proof.Machine
end

