-- ==== Sys2Proof/Machine/Arith.lean ====
section
/-! DEFINITION. Arithmetic: ADD, ADDS, ADDX, CMP, DAA, DAS, DEC, DIVXS, DIVXU, EXTS, EXTU, INC, MULXS, MULXU, NEG, SUB, SUBS, SUBX
(42_arithmetic.md). One definition per instruction of the table. -/

namespace Sys2Proof.Machine

/-- `ADD.B #xx:8,Rd` (R231). -/
def execAddBImm (imm : BitVec 8) (rd : Reg8) (s : State) : Host.Outcome State Fault Refusal :=
  .next ((s.alu8 rd (aluAdd (s.reg8 rd) imm false)).advance 2)

/-- `ADD.B Rs,Rd` (R232). -/
def execAddBReg (rs : Reg8) (rd : Reg8) (s : State) : Host.Outcome State Fault Refusal :=
  .next ((s.alu8 rd (aluAdd (s.reg8 rd) (s.reg8 rs) false)).advance 2)

/-- `ADD.W #xx:16,Rd` (R233). -/
def execAddWImm (imm : BitVec 16) (rd : Reg16) (s : State) : Host.Outcome State Fault Refusal :=
  .next ((s.alu16 rd (aluAdd (s.reg16 rd) imm false)).advance 4)

/-- `ADD.W Rs,Rd` (R234). -/
def execAddWReg (rs : Reg16) (rd : Reg16) (s : State) : Host.Outcome State Fault Refusal :=
  .next ((s.alu16 rd (aluAdd (s.reg16 rd) (s.reg16 rs) false)).advance 2)

/-- `ADD.L #xx:32,ERd` (R235). -/
def execAddLImm (imm : BitVec 32) (erd : ERn) (s : State) : Host.Outcome State Fault Refusal :=
  .next ((s.alu32 erd (aluAdd (s.er erd) imm false)).advance 6)

/-- `ADD.L ERs,ERd` (R236). -/
def execAddLReg (ers : ERn) (erd : ERn) (s : State) : Host.Outcome State Fault Refusal :=
  .next ((s.alu32 erd (aluAdd (s.er erd) (s.er ers) false)).advance 2)

/-- `ADDS #1,ERd` (R237). -/
def execAdds1 (erd : ERn) (s : State) : Host.Outcome State Fault Refusal :=
  .next ((s.setEr erd (s.er erd + 1)).advance 2)

/-- `ADDS #2,ERd` (R238). -/
def execAdds2 (erd : ERn) (s : State) : Host.Outcome State Fault Refusal :=
  .next ((s.setEr erd (s.er erd + 2)).advance 2)

/-- `ADDS #4,ERd` (R239). -/
def execAdds4 (erd : ERn) (s : State) : Host.Outcome State Fault Refusal :=
  .next ((s.setEr erd (s.er erd + 4)).advance 2)

/-- `ADDX #xx:8,Rd` (R240). -/
def execAddxImm (imm : BitVec 8) (rd : Reg8) (s : State) : Host.Outcome State Fault Refusal :=
  .next ((s.aluX8 rd (aluAdd (s.reg8 rd) imm (s.flag .c))).advance 2)

/-- `ADDX Rs,Rd` (R241). -/
def execAddxReg (rs : Reg8) (rd : Reg8) (s : State) : Host.Outcome State Fault Refusal :=
  .next ((s.aluX8 rd (aluAdd (s.reg8 rd) (s.reg8 rs) (s.flag .c))).advance 2)

/-- `CMP.B #xx:8,Rd` (R242). -/
def execCmpBImm (imm : BitVec 8) (rd : Reg8) (s : State) : Host.Outcome State Fault Refusal :=
  .next ((s.compare (aluSub (s.reg8 rd) imm false)).advance 2)

/-- `CMP.B Rs,Rd` (R243). -/
def execCmpBReg (rs : Reg8) (rd : Reg8) (s : State) : Host.Outcome State Fault Refusal :=
  .next ((s.compare (aluSub (s.reg8 rd) (s.reg8 rs) false)).advance 2)

/-- `CMP.W #xx:16,Rd` (R244). -/
def execCmpWImm (imm : BitVec 16) (rd : Reg16) (s : State) : Host.Outcome State Fault Refusal :=
  .next ((s.compare (aluSub (s.reg16 rd) imm false)).advance 4)

/-- `CMP.W Rs,Rd` (R245). -/
def execCmpWReg (rs : Reg16) (rd : Reg16) (s : State) : Host.Outcome State Fault Refusal :=
  .next ((s.compare (aluSub (s.reg16 rd) (s.reg16 rs) false)).advance 2)

/-- `CMP.L #xx:32,ERd` (R246). -/
def execCmpLImm (imm : BitVec 32) (erd : ERn) (s : State) : Host.Outcome State Fault Refusal :=
  .next ((s.compare (aluSub (s.er erd) imm false)).advance 6)

/-- `CMP.L ERs,ERd` (R247). -/
def execCmpLReg (ers : ERn) (erd : ERn) (s : State) : Host.Outcome State Fault Refusal :=
  .next ((s.compare (aluSub (s.er erd) (s.er ers) false)).advance 2)

/-- `DAA Rd` (R248). -/
def execDaa (rd : Reg8) (s : State) : Host.Outcome State Fault Refusal :=
  .next ((s.decimal rd daaTable false).advance 2)

/-- `DAS Rd` (R249). -/
def execDas (rd : Reg8) (s : State) : Host.Outcome State Fault Refusal :=
  .next ((s.decimal rd dasTable true).advance 2)

/-- `DEC.B Rd` (R250). -/
def execDecB (rd : Reg8) (s : State) : Host.Outcome State Fault Refusal := .next ((s.dec8 rd 1).advance 2)

/-- `DEC.W #1,Rd` (R251). -/
def execDecW1 (rd : Reg16) (s : State) : Host.Outcome State Fault Refusal := .next ((s.dec16 rd 1).advance 2)

/-- `DEC.W #2,Rd` (R252). -/
def execDecW2 (rd : Reg16) (s : State) : Host.Outcome State Fault Refusal := .next ((s.dec16 rd 2).advance 2)

/-- `DEC.L #1,ERd` (R253). -/
def execDecL1 (erd : ERn) (s : State) : Host.Outcome State Fault Refusal := .next ((s.dec32 erd 1).advance 2)

/-- `DEC.L #2,ERd` (R254). -/
def execDecL2 (erd : ERn) (s : State) : Host.Outcome State Fault Refusal := .next ((s.dec32 erd 2).advance 2)

/-- `DIVXS.B Rs,Rd` (R255). -/
def execDivxsBReg (rs : Reg8) (rd : Reg16) (s : State) : Host.Outcome State Fault Refusal :=
  .next (((s.setNZ ((s.reg8 rs).msb != (s.reg16 rd).msb) (decide ((s.reg8 rs) = 0#8))).divInto16 rd (divSigned (s.reg16 rd) (s.reg8 rs))).advance 4)

/-- `DIVXS.W Rs,ERd` (R256). -/
def execDivxsWReg (rs : Reg16) (erd : ERn) (s : State) : Host.Outcome State Fault Refusal :=
  .next (((s.setNZ ((s.reg16 rs).msb != (s.er erd).msb) (decide ((s.reg16 rs) = 0#16))).divInto32 erd (divSigned (s.er erd) (s.reg16 rs))).advance 4)

/-- `DIVXU.B Rs,Rd` (R258). -/
def execDivxuBReg (rs : Reg8) (rd : Reg16) (s : State) : Host.Outcome State Fault Refusal :=
  .next (((s.setNZ (s.reg8 rs).msb (decide ((s.reg8 rs) = 0#8))).divInto16 rd (divUnsigned (s.reg16 rd) (s.reg8 rs))).advance 2)

/-- `DIVXU.W Rs,ERd` (R259). -/
def execDivxuWReg (rs : Reg16) (erd : ERn) (s : State) : Host.Outcome State Fault Refusal :=
  .next (((s.setNZ (s.reg16 rs).msb (decide ((s.reg16 rs) = 0#16))).divInto32 erd (divUnsigned (s.er erd) (s.reg16 rs))).advance 2)

/-- `EXTS.W Rd` (R261). -/
def execExtsW (rd : Reg16) (s : State) : Host.Outcome State Fault Refusal :=
  let r : BitVec 16 := ((s.reg16 rd).setWidth 8).signExtend 16
  .next (((s.setReg16 rd r).setCcr (ccrLogic s.ccr r)).advance 2)

/-- `EXTS.L ERd` (R262). -/
def execExtsL (erd : ERn) (s : State) : Host.Outcome State Fault Refusal :=
  let r : BitVec 32 := ((s.er erd).setWidth 16).signExtend 32
  .next (((s.setEr erd r).setCcr (ccrLogic s.ccr r)).advance 2)

/-- `EXTU.W Rd` (R263). -/
def execExtuW (rd : Reg16) (s : State) : Host.Outcome State Fault Refusal :=
  let r : BitVec 16 := ((s.reg16 rd).setWidth 8).setWidth 16
  .next (((s.setReg16 rd r).setCcr (ccrExtu s.ccr r)).advance 2)

/-- `EXTU.L ERd` (R264). -/
def execExtuL (erd : ERn) (s : State) : Host.Outcome State Fault Refusal :=
  let r : BitVec 32 := ((s.er erd).setWidth 16).setWidth 32
  .next (((s.setEr erd r).setCcr (ccrExtu s.ccr r)).advance 2)

/-- `INC.B Rd` (R265). -/
def execIncB (rd : Reg8) (s : State) : Host.Outcome State Fault Refusal := .next ((s.inc8 rd 1).advance 2)

/-- `INC.W #1,Rd` (R266). -/
def execIncW1 (rd : Reg16) (s : State) : Host.Outcome State Fault Refusal := .next ((s.inc16 rd 1).advance 2)

/-- `INC.W #2,Rd` (R267). -/
def execIncW2 (rd : Reg16) (s : State) : Host.Outcome State Fault Refusal := .next ((s.inc16 rd 2).advance 2)

/-- `INC.L #1,ERd` (R268). -/
def execIncL1 (erd : ERn) (s : State) : Host.Outcome State Fault Refusal := .next ((s.inc32 erd 1).advance 2)

/-- `INC.L #2,ERd` (R269). -/
def execIncL2 (erd : ERn) (s : State) : Host.Outcome State Fault Refusal := .next ((s.inc32 erd 2).advance 2)

/-- `MULXS.B Rs,Rd` (R270). -/
def execMulxsBReg (rs : Reg8) (rd : Reg16) (s : State) : Host.Outcome State Fault Refusal :=
  let p := mulSigned 16 ((s.reg16 rd).setWidth 8) (s.reg8 rs)
  .next (((s.setReg16 rd p).setNZ p.msb (decide (p = 0#16))).advance 4)

/-- `MULXS.W Rs,ERd` (R271). -/
def execMulxsWReg (rs : Reg16) (erd : ERn) (s : State) : Host.Outcome State Fault Refusal :=
  let p := mulSigned 32 ((s.er erd).setWidth 16) (s.reg16 rs)
  .next (((s.setEr erd p).setNZ p.msb (decide (p = 0#32))).advance 4)

/-- `MULXU.B Rs,Rd` (R272). -/
def execMulxuBReg (rs : Reg8) (rd : Reg16) (s : State) : Host.Outcome State Fault Refusal :=
  let p := mulUnsigned 16 ((s.reg16 rd).setWidth 8) (s.reg8 rs)
  .next ((s.setReg16 rd p).advance 2)

/-- `MULXU.W Rs,ERd` (R273). -/
def execMulxuWReg (rs : Reg16) (erd : ERn) (s : State) : Host.Outcome State Fault Refusal :=
  let p := mulUnsigned 32 ((s.er erd).setWidth 16) (s.reg16 rs)
  .next ((s.setEr erd p).advance 2)

/-- `NEG.B Rd` (R274). -/
def execNegB (rd : Reg8) (s : State) : Host.Outcome State Fault Refusal :=
  .next ((s.alu8 rd (aluSub 0#8 (s.reg8 rd) false)).advance 2)

/-- `NEG.W Rd` (R275). -/
def execNegW (rd : Reg16) (s : State) : Host.Outcome State Fault Refusal :=
  .next ((s.alu16 rd (aluSub 0#16 (s.reg16 rd) false)).advance 2)

/-- `NEG.L ERd` (R276). -/
def execNegL (erd : ERn) (s : State) : Host.Outcome State Fault Refusal :=
  .next ((s.alu32 erd (aluSub 0#32 (s.er erd) false)).advance 2)

/-- `SUB.B Rs,Rd` (R277). -/
def execSubBReg (rs : Reg8) (rd : Reg8) (s : State) : Host.Outcome State Fault Refusal :=
  .next ((s.alu8 rd (aluSub (s.reg8 rd) (s.reg8 rs) false)).advance 2)

/-- `SUB.W #xx:16,Rd` (R278). -/
def execSubWImm (imm : BitVec 16) (rd : Reg16) (s : State) : Host.Outcome State Fault Refusal :=
  .next ((s.alu16 rd (aluSub (s.reg16 rd) imm false)).advance 4)

/-- `SUB.W Rs,Rd` (R279). -/
def execSubWReg (rs : Reg16) (rd : Reg16) (s : State) : Host.Outcome State Fault Refusal :=
  .next ((s.alu16 rd (aluSub (s.reg16 rd) (s.reg16 rs) false)).advance 2)

/-- `SUB.L #xx:32,ERd` (R280). -/
def execSubLImm (imm : BitVec 32) (erd : ERn) (s : State) : Host.Outcome State Fault Refusal :=
  .next ((s.alu32 erd (aluSub (s.er erd) imm false)).advance 6)

/-- `SUB.L ERs,ERd` (R281). -/
def execSubLReg (ers : ERn) (erd : ERn) (s : State) : Host.Outcome State Fault Refusal :=
  .next ((s.alu32 erd (aluSub (s.er erd) (s.er ers) false)).advance 2)

/-- `SUBS #1,ERd` (R282). -/
def execSubs1 (erd : ERn) (s : State) : Host.Outcome State Fault Refusal :=
  .next ((s.setEr erd (s.er erd - 1)).advance 2)

/-- `SUBS #2,ERd` (R283). -/
def execSubs2 (erd : ERn) (s : State) : Host.Outcome State Fault Refusal :=
  .next ((s.setEr erd (s.er erd - 2)).advance 2)

/-- `SUBS #4,ERd` (R284). -/
def execSubs4 (erd : ERn) (s : State) : Host.Outcome State Fault Refusal :=
  .next ((s.setEr erd (s.er erd - 4)).advance 2)

/-- `SUBX #xx:8,Rd` (R285). -/
def execSubxImm (imm : BitVec 8) (rd : Reg8) (s : State) : Host.Outcome State Fault Refusal :=
  .next ((s.aluX8 rd (aluSub (s.reg8 rd) imm (s.flag .c))).advance 2)

/-- `SUBX Rs,Rd` (R286). -/
def execSubxReg (rs : Reg8) (rd : Reg8) (s : State) : Host.Outcome State Fault Refusal :=
  .next ((s.aluX8 rd (aluSub (s.reg8 rd) (s.reg8 rs) (s.flag .c))).advance 2)

end Sys2Proof.Machine
end

