-- ==== Sys2Proof/Machine/Bit.lean ====
section
/-! DEFINITION. Bit manipulation (44_bit.md). One definition per instruction of the table. -/

namespace Sys2Proof.Machine

/-- `BSET #xx:3,Rd` (R365). -/
def execBsetImmReg (imm : BitVec 3) (rd : Reg8) (s : State) : Host.Outcome State Fault Refusal :=
  .next ((s.modifyReg rd (fun x => byteWithBit x imm true)).advance 2)

/-- `BSET #xx:3,@ERd` (R365). -/
def execBsetImmInd (imm : BitVec 3) (erd : ERn) (s : State) : Host.Outcome State Fault Refusal :=
  .next ((s.modifyMem (s.eaInd erd) (fun x => byteWithBit x imm true)).advance 4)

/-- `BSET #xx:3,@aa:8` (R365). -/
def execBsetImmAbs8 (imm : BitVec 3) (abs : BitVec 8) (s : State) : Host.Outcome State Fault Refusal :=
  .next ((s.modifyMem (eaAbs8 abs) (fun x => byteWithBit x imm true)).advance 4)

/-- `BSET Rn,Rd` (R366). -/
def execBsetRegReg (rn : Reg8) (rd : Reg8) (s : State) : Host.Outcome State Fault Refusal :=
  .next ((s.modifyReg rd (fun x => byteWithBit x (bitNumber (s.reg8 rn)) true)).advance 2)

/-- `BSET Rn,@ERd` (R366). -/
def execBsetRegInd (rn : Reg8) (erd : ERn) (s : State) : Host.Outcome State Fault Refusal :=
  .next ((s.modifyMem (s.eaInd erd) (fun x => byteWithBit x (bitNumber (s.reg8 rn)) true)).advance 4)

/-- `BSET Rn,@aa:8` (R366). -/
def execBsetRegAbs8 (rn : Reg8) (abs : BitVec 8) (s : State) : Host.Outcome State Fault Refusal :=
  .next ((s.modifyMem (eaAbs8 abs) (fun x => byteWithBit x (bitNumber (s.reg8 rn)) true)).advance 4)

/-- `BCLR #xx:3,Rd` (R367). -/
def execBclrImmReg (imm : BitVec 3) (rd : Reg8) (s : State) : Host.Outcome State Fault Refusal :=
  .next ((s.modifyReg rd (fun x => byteWithBit x imm false)).advance 2)

/-- `BCLR #xx:3,@ERd` (R367). -/
def execBclrImmInd (imm : BitVec 3) (erd : ERn) (s : State) : Host.Outcome State Fault Refusal :=
  .next ((s.modifyMem (s.eaInd erd) (fun x => byteWithBit x imm false)).advance 4)

/-- `BCLR #xx:3,@aa:8` (R367). -/
def execBclrImmAbs8 (imm : BitVec 3) (abs : BitVec 8) (s : State) : Host.Outcome State Fault Refusal :=
  .next ((s.modifyMem (eaAbs8 abs) (fun x => byteWithBit x imm false)).advance 4)

/-- `BCLR Rn,Rd` (R368). -/
def execBclrRegReg (rn : Reg8) (rd : Reg8) (s : State) : Host.Outcome State Fault Refusal :=
  .next ((s.modifyReg rd (fun x => byteWithBit x (bitNumber (s.reg8 rn)) false)).advance 2)

/-- `BCLR Rn,@ERd` (R368). -/
def execBclrRegInd (rn : Reg8) (erd : ERn) (s : State) : Host.Outcome State Fault Refusal :=
  .next ((s.modifyMem (s.eaInd erd) (fun x => byteWithBit x (bitNumber (s.reg8 rn)) false)).advance 4)

/-- `BCLR Rn,@aa:8` (R368). -/
def execBclrRegAbs8 (rn : Reg8) (abs : BitVec 8) (s : State) : Host.Outcome State Fault Refusal :=
  .next ((s.modifyMem (eaAbs8 abs) (fun x => byteWithBit x (bitNumber (s.reg8 rn)) false)).advance 4)

/-- `BNOT #xx:3,Rd` (R369). -/
def execBnotImmReg (imm : BitVec 3) (rd : Reg8) (s : State) : Host.Outcome State Fault Refusal :=
  .next ((s.modifyReg rd (fun x => byteWithBit x imm (!byteBit x imm))).advance 2)

/-- `BNOT #xx:3,@ERd` (R369). -/
def execBnotImmInd (imm : BitVec 3) (erd : ERn) (s : State) : Host.Outcome State Fault Refusal :=
  .next ((s.modifyMem (s.eaInd erd) (fun x => byteWithBit x imm (!byteBit x imm))).advance 4)

/-- `BNOT #xx:3,@aa:8` (R369). -/
def execBnotImmAbs8 (imm : BitVec 3) (abs : BitVec 8) (s : State) : Host.Outcome State Fault Refusal :=
  .next ((s.modifyMem (eaAbs8 abs) (fun x => byteWithBit x imm (!byteBit x imm))).advance 4)

/-- `BNOT Rn,Rd` (R370). -/
def execBnotRegReg (rn : Reg8) (rd : Reg8) (s : State) : Host.Outcome State Fault Refusal :=
  .next ((s.modifyReg rd (fun x => byteWithBit x (bitNumber (s.reg8 rn)) (!byteBit x (bitNumber (s.reg8 rn))))).advance 2)

/-- `BNOT Rn,@ERd` (R370). -/
def execBnotRegInd (rn : Reg8) (erd : ERn) (s : State) : Host.Outcome State Fault Refusal :=
  .next ((s.modifyMem (s.eaInd erd) (fun x => byteWithBit x (bitNumber (s.reg8 rn)) (!byteBit x (bitNumber (s.reg8 rn))))).advance 4)

/-- `BNOT Rn,@aa:8` (R370). -/
def execBnotRegAbs8 (rn : Reg8) (abs : BitVec 8) (s : State) : Host.Outcome State Fault Refusal :=
  .next ((s.modifyMem (eaAbs8 abs) (fun x => byteWithBit x (bitNumber (s.reg8 rn)) (!byteBit x (bitNumber (s.reg8 rn))))).advance 4)

/-- `BTST #xx:3,Rd` (R371). -/
def execBtstImmReg (imm : BitVec 3) (rd : Reg8) (s : State) : Host.Outcome State Fault Refusal :=
  .next ((s.testBit (s.reg8 rd) imm).advance 2)

/-- `BTST #xx:3,@ERd` (R371). -/
def execBtstImmInd (imm : BitVec 3) (erd : ERn) (s : State) : Host.Outcome State Fault Refusal :=
  .next ((s.testBitMem (s.eaInd erd) imm).advance 4)

/-- `BTST #xx:3,@aa:8` (R371). -/
def execBtstImmAbs8 (imm : BitVec 3) (abs : BitVec 8) (s : State) : Host.Outcome State Fault Refusal :=
  .next ((s.testBitMem (eaAbs8 abs) imm).advance 4)

/-- `BTST Rn,Rd` (R372). -/
def execBtstRegReg (rn : Reg8) (rd : Reg8) (s : State) : Host.Outcome State Fault Refusal :=
  .next ((s.testBit (s.reg8 rd) (bitNumber (s.reg8 rn))).advance 2)

/-- `BTST Rn,@ERd` (R372). -/
def execBtstRegInd (rn : Reg8) (erd : ERn) (s : State) : Host.Outcome State Fault Refusal :=
  .next ((s.testBitMem (s.eaInd erd) (bitNumber (s.reg8 rn))).advance 4)

/-- `BTST Rn,@aa:8` (R372). -/
def execBtstRegAbs8 (rn : Reg8) (abs : BitVec 8) (s : State) : Host.Outcome State Fault Refusal :=
  .next ((s.testBitMem (eaAbs8 abs) (bitNumber (s.reg8 rn))).advance 4)

/-- `BAND #xx:3,Rd` (R373). -/
def execBandImmReg (imm : BitVec 3) (rd : Reg8) (s : State) : Host.Outcome State Fault Refusal :=
  .next ((s.carryBit (s.reg8 rd) imm (fun c b => c && b)).advance 2)

/-- `BAND #xx:3,@ERd` (R373). -/
def execBandImmInd (imm : BitVec 3) (erd : ERn) (s : State) : Host.Outcome State Fault Refusal :=
  .next ((s.carryBitMem (s.eaInd erd) imm (fun c b => c && b)).advance 4)

/-- `BAND #xx:3,@aa:8` (R373). -/
def execBandImmAbs8 (imm : BitVec 3) (abs : BitVec 8) (s : State) : Host.Outcome State Fault Refusal :=
  .next ((s.carryBitMem (eaAbs8 abs) imm (fun c b => c && b)).advance 4)

/-- `BIAND #xx:3,Rd` (R374). -/
def execBiandImmReg (imm : BitVec 3) (rd : Reg8) (s : State) : Host.Outcome State Fault Refusal :=
  .next ((s.carryBit (s.reg8 rd) imm (fun c b => c && !b)).advance 2)

/-- `BIAND #xx:3,@ERd` (R374). -/
def execBiandImmInd (imm : BitVec 3) (erd : ERn) (s : State) : Host.Outcome State Fault Refusal :=
  .next ((s.carryBitMem (s.eaInd erd) imm (fun c b => c && !b)).advance 4)

/-- `BIAND #xx:3,@aa:8` (R374). -/
def execBiandImmAbs8 (imm : BitVec 3) (abs : BitVec 8) (s : State) : Host.Outcome State Fault Refusal :=
  .next ((s.carryBitMem (eaAbs8 abs) imm (fun c b => c && !b)).advance 4)

/-- `BOR #xx:3,Rd` (R375). -/
def execBorImmReg (imm : BitVec 3) (rd : Reg8) (s : State) : Host.Outcome State Fault Refusal :=
  .next ((s.carryBit (s.reg8 rd) imm (fun c b => c || b)).advance 2)

/-- `BOR #xx:3,@ERd` (R375). -/
def execBorImmInd (imm : BitVec 3) (erd : ERn) (s : State) : Host.Outcome State Fault Refusal :=
  .next ((s.carryBitMem (s.eaInd erd) imm (fun c b => c || b)).advance 4)

/-- `BOR #xx:3,@aa:8` (R375). -/
def execBorImmAbs8 (imm : BitVec 3) (abs : BitVec 8) (s : State) : Host.Outcome State Fault Refusal :=
  .next ((s.carryBitMem (eaAbs8 abs) imm (fun c b => c || b)).advance 4)

/-- `BIOR #xx:3,Rd` (R376). -/
def execBiorImmReg (imm : BitVec 3) (rd : Reg8) (s : State) : Host.Outcome State Fault Refusal :=
  .next ((s.carryBit (s.reg8 rd) imm (fun c b => c || !b)).advance 2)

/-- `BIOR #xx:3,@ERd` (R376). -/
def execBiorImmInd (imm : BitVec 3) (erd : ERn) (s : State) : Host.Outcome State Fault Refusal :=
  .next ((s.carryBitMem (s.eaInd erd) imm (fun c b => c || !b)).advance 4)

/-- `BIOR #xx:3,@aa:8` (R376). -/
def execBiorImmAbs8 (imm : BitVec 3) (abs : BitVec 8) (s : State) : Host.Outcome State Fault Refusal :=
  .next ((s.carryBitMem (eaAbs8 abs) imm (fun c b => c || !b)).advance 4)

/-- `BXOR #xx:3,Rd` (R377). -/
def execBxorImmReg (imm : BitVec 3) (rd : Reg8) (s : State) : Host.Outcome State Fault Refusal :=
  .next ((s.carryBit (s.reg8 rd) imm (fun c b => c != b)).advance 2)

/-- `BXOR #xx:3,@ERd` (R377). -/
def execBxorImmInd (imm : BitVec 3) (erd : ERn) (s : State) : Host.Outcome State Fault Refusal :=
  .next ((s.carryBitMem (s.eaInd erd) imm (fun c b => c != b)).advance 4)

/-- `BXOR #xx:3,@aa:8` (R377). -/
def execBxorImmAbs8 (imm : BitVec 3) (abs : BitVec 8) (s : State) : Host.Outcome State Fault Refusal :=
  .next ((s.carryBitMem (eaAbs8 abs) imm (fun c b => c != b)).advance 4)

/-- `BIXOR #xx:3,Rd` (R378). -/
def execBixorImmReg (imm : BitVec 3) (rd : Reg8) (s : State) : Host.Outcome State Fault Refusal :=
  .next ((s.carryBit (s.reg8 rd) imm (fun c b => c != !b)).advance 2)

/-- `BIXOR #xx:3,@ERd` (R378). -/
def execBixorImmInd (imm : BitVec 3) (erd : ERn) (s : State) : Host.Outcome State Fault Refusal :=
  .next ((s.carryBitMem (s.eaInd erd) imm (fun c b => c != !b)).advance 4)

/-- `BIXOR #xx:3,@aa:8` (R378). -/
def execBixorImmAbs8 (imm : BitVec 3) (abs : BitVec 8) (s : State) : Host.Outcome State Fault Refusal :=
  .next ((s.carryBitMem (eaAbs8 abs) imm (fun c b => c != !b)).advance 4)

/-- `BLD #xx:3,Rd` (R379). -/
def execBldImmReg (imm : BitVec 3) (rd : Reg8) (s : State) : Host.Outcome State Fault Refusal :=
  .next ((s.carryBit (s.reg8 rd) imm (fun _ b => b)).advance 2)

/-- `BLD #xx:3,@ERd` (R379). -/
def execBldImmInd (imm : BitVec 3) (erd : ERn) (s : State) : Host.Outcome State Fault Refusal :=
  .next ((s.carryBitMem (s.eaInd erd) imm (fun _ b => b)).advance 4)

/-- `BLD #xx:3,@aa:8` (R379). -/
def execBldImmAbs8 (imm : BitVec 3) (abs : BitVec 8) (s : State) : Host.Outcome State Fault Refusal :=
  .next ((s.carryBitMem (eaAbs8 abs) imm (fun _ b => b)).advance 4)

/-- `BILD #xx:3,Rd` (R380). -/
def execBildImmReg (imm : BitVec 3) (rd : Reg8) (s : State) : Host.Outcome State Fault Refusal :=
  .next ((s.carryBit (s.reg8 rd) imm (fun _ b => !b)).advance 2)

/-- `BILD #xx:3,@ERd` (R380). -/
def execBildImmInd (imm : BitVec 3) (erd : ERn) (s : State) : Host.Outcome State Fault Refusal :=
  .next ((s.carryBitMem (s.eaInd erd) imm (fun _ b => !b)).advance 4)

/-- `BILD #xx:3,@aa:8` (R380). -/
def execBildImmAbs8 (imm : BitVec 3) (abs : BitVec 8) (s : State) : Host.Outcome State Fault Refusal :=
  .next ((s.carryBitMem (eaAbs8 abs) imm (fun _ b => !b)).advance 4)

/-- `BST #xx:3,Rd` (R381). -/
def execBstImmReg (imm : BitVec 3) (rd : Reg8) (s : State) : Host.Outcome State Fault Refusal :=
  .next ((s.modifyReg rd (fun x => byteWithBit x imm (s.flag .c))).advance 2)

/-- `BST #xx:3,@ERd` (R381). -/
def execBstImmInd (imm : BitVec 3) (erd : ERn) (s : State) : Host.Outcome State Fault Refusal :=
  .next ((s.modifyMem (s.eaInd erd) (fun x => byteWithBit x imm (s.flag .c))).advance 4)

/-- `BST #xx:3,@aa:8` (R381). -/
def execBstImmAbs8 (imm : BitVec 3) (abs : BitVec 8) (s : State) : Host.Outcome State Fault Refusal :=
  .next ((s.modifyMem (eaAbs8 abs) (fun x => byteWithBit x imm (s.flag .c))).advance 4)

/-- `BIST #xx:3,Rd` (R382). -/
def execBistImmReg (imm : BitVec 3) (rd : Reg8) (s : State) : Host.Outcome State Fault Refusal :=
  .next ((s.modifyReg rd (fun x => byteWithBit x imm (!s.flag .c))).advance 2)

/-- `BIST #xx:3,@ERd` (R382). -/
def execBistImmInd (imm : BitVec 3) (erd : ERn) (s : State) : Host.Outcome State Fault Refusal :=
  .next ((s.modifyMem (s.eaInd erd) (fun x => byteWithBit x imm (!s.flag .c))).advance 4)

/-- `BIST #xx:3,@aa:8` (R382). -/
def execBistImmAbs8 (imm : BitVec 3) (abs : BitVec 8) (s : State) : Host.Outcome State Fault Refusal :=
  .next ((s.modifyMem (eaAbs8 abs) (fun x => byteWithBit x imm (!s.flag .c))).advance 4)

end Sys2Proof.Machine
end

