-- ==== Sys2Proof/Machine/Block.lean ====
section
/-! DEFINITION. Block transfer: EEPMOV (47_block.md). One definition per instruction of the table. -/

namespace Sys2Proof.Machine

/-- The preliminary reads of EEPMOV at ER5 and ER6, values discarded (R473). -/
def State.eepmovReads (s : State) : State :=
  let s1 := (s.loadByte (s.eaInd 5#3)).2
  (s1.loadByte (s1.eaInd 6#3)).2

/-- One byte of a block transfer: from @ER5+ to @ER6+ (R470, R474). -/
def State.eepmovByte (s : State) : State :=
  let b := s.loadByte (s.eaInd 5#3)
  let s1 := b.2.storeByte (b.2.eaInd 6#3) b.1
  let s2 := s1.setEr 5#3 (s1.er 5#3 + 1)
  s2.setEr 6#3 (s2.er 6#3 + 1)

/-- The loop of EEPMOV.B over `n` bytes, counting R4L down; no interrupt is detected (R470). -/
def State.eepmovLoopB (s : State) : Nat → State
  | 0 => s
  | n + 1 =>
    let s1 := s.eepmovByte
    (s1.setReg8 (.l 4#3) (s1.reg8 (.l 4#3) - 1)).eepmovLoopB n

/-- The NMI requested once `k` bytes are transferred, if any: it was presented already, or it has arrived (R472, D23). -/
def State.nmiAfter (s : State) (k : Nat) : Option Request :=
  match s.pending.find? fun r => r.isNMI with
  | some r => some r
  | none =>
    match s.lateNmi with
    | some (j, r) => if r.isNMI && decide (j ≤ k) then some r else none
    | none => none

/-- The loop of EEPMOV.W over `n` bytes, `k` bytes being done, counting R4 down; it ends after the byte at which NMI is
requested, whose entry is then due (R471, R472, D23). -/
def State.eepmovLoopW (s : State) (k : Nat) : Nat → State
  | 0 => s
  | n + 1 =>
    let s1 := s.eepmovByte
    let s2 := s1.setReg16 (.r 4#3) (s1.reg16 (.r 4#3) - 1)
    match s2.nmiAfter (k + 1) with
    | some r => { s2 with nmiDue := some r }
    | none => s2.eepmovLoopW (k + 1) n

/-- EEPMOV.B up to the advance of PC: the preliminary reads, then R4L bytes (R470, R473). -/
def State.eepmovB (s : State) : State := s.eepmovReads.eepmovLoopB (s.reg8 (.l 4#3)).toNat

/-- EEPMOV.W up to the advance of PC: the preliminary reads, then R4 bytes unless NMI cuts it (R471, R472, R473). -/
def State.eepmovW (s : State) : State := s.eepmovReads.eepmovLoopW 0 (s.reg16 (.r 4#3)).toNat


/-- `EEPMOV.B` (R470). -/
def execEepmovB (s : State) : Host.Outcome State Fault Refusal := .next ((s.eepmovB).advance 4)

/-- `EEPMOV.W` (R471). -/
def execEepmovW (s : State) : Host.Outcome State Fault Refusal := .next ((s.eepmovW).advance 4)

end Sys2Proof.Machine
end

