-- ==== Sys2Proof/Machine/Branch.lean ====
section
/-! DEFINITION. Branches: Bcc, BSR, JMP, JSR, RTS (45_branch.md). One definition per instruction of the table. -/

namespace Sys2Proof.Machine

/-- `BRA d:8` (R402). -/
def execBraD8 (disp : BitVec 8) (s : State) : Host.Outcome State Fault Refusal := .next (s.branchIf 0x0#4 2 disp)

/-- `BRN d:8` (R402). -/
def execBrnD8 (disp : BitVec 8) (s : State) : Host.Outcome State Fault Refusal := .next (s.branchIf 0x1#4 2 disp)

/-- `BHI d:8` (R402). -/
def execBhiD8 (disp : BitVec 8) (s : State) : Host.Outcome State Fault Refusal := .next (s.branchIf 0x2#4 2 disp)

/-- `BLS d:8` (R402). -/
def execBlsD8 (disp : BitVec 8) (s : State) : Host.Outcome State Fault Refusal := .next (s.branchIf 0x3#4 2 disp)

/-- `BCC d:8` (R402). -/
def execBccD8 (disp : BitVec 8) (s : State) : Host.Outcome State Fault Refusal := .next (s.branchIf 0x4#4 2 disp)

/-- `BCS d:8` (R402). -/
def execBcsD8 (disp : BitVec 8) (s : State) : Host.Outcome State Fault Refusal := .next (s.branchIf 0x5#4 2 disp)

/-- `BNE d:8` (R402). -/
def execBneD8 (disp : BitVec 8) (s : State) : Host.Outcome State Fault Refusal := .next (s.branchIf 0x6#4 2 disp)

/-- `BEQ d:8` (R402). -/
def execBeqD8 (disp : BitVec 8) (s : State) : Host.Outcome State Fault Refusal := .next (s.branchIf 0x7#4 2 disp)

/-- `BVC d:8` (R402). -/
def execBvcD8 (disp : BitVec 8) (s : State) : Host.Outcome State Fault Refusal := .next (s.branchIf 0x8#4 2 disp)

/-- `BVS d:8` (R402). -/
def execBvsD8 (disp : BitVec 8) (s : State) : Host.Outcome State Fault Refusal := .next (s.branchIf 0x9#4 2 disp)

/-- `BPL d:8` (R402). -/
def execBplD8 (disp : BitVec 8) (s : State) : Host.Outcome State Fault Refusal := .next (s.branchIf 0xA#4 2 disp)

/-- `BMI d:8` (R402). -/
def execBmiD8 (disp : BitVec 8) (s : State) : Host.Outcome State Fault Refusal := .next (s.branchIf 0xB#4 2 disp)

/-- `BGE d:8` (R402). -/
def execBgeD8 (disp : BitVec 8) (s : State) : Host.Outcome State Fault Refusal := .next (s.branchIf 0xC#4 2 disp)

/-- `BLT d:8` (R402). -/
def execBltD8 (disp : BitVec 8) (s : State) : Host.Outcome State Fault Refusal := .next (s.branchIf 0xD#4 2 disp)

/-- `BGT d:8` (R402). -/
def execBgtD8 (disp : BitVec 8) (s : State) : Host.Outcome State Fault Refusal := .next (s.branchIf 0xE#4 2 disp)

/-- `BLE d:8` (R402). -/
def execBleD8 (disp : BitVec 8) (s : State) : Host.Outcome State Fault Refusal := .next (s.branchIf 0xF#4 2 disp)

/-- `BRA d:16` (R403). -/
def execBraD16 (disp : BitVec 16) (s : State) : Host.Outcome State Fault Refusal := .next (s.branchIf 0x0#4 4 disp)

/-- `BRN d:16` (R403). -/
def execBrnD16 (disp : BitVec 16) (s : State) : Host.Outcome State Fault Refusal := .next (s.branchIf 0x1#4 4 disp)

/-- `BHI d:16` (R403). -/
def execBhiD16 (disp : BitVec 16) (s : State) : Host.Outcome State Fault Refusal := .next (s.branchIf 0x2#4 4 disp)

/-- `BLS d:16` (R403). -/
def execBlsD16 (disp : BitVec 16) (s : State) : Host.Outcome State Fault Refusal := .next (s.branchIf 0x3#4 4 disp)

/-- `BCC d:16` (R403). -/
def execBccD16 (disp : BitVec 16) (s : State) : Host.Outcome State Fault Refusal := .next (s.branchIf 0x4#4 4 disp)

/-- `BCS d:16` (R403). -/
def execBcsD16 (disp : BitVec 16) (s : State) : Host.Outcome State Fault Refusal := .next (s.branchIf 0x5#4 4 disp)

/-- `BNE d:16` (R403). -/
def execBneD16 (disp : BitVec 16) (s : State) : Host.Outcome State Fault Refusal := .next (s.branchIf 0x6#4 4 disp)

/-- `BEQ d:16` (R403). -/
def execBeqD16 (disp : BitVec 16) (s : State) : Host.Outcome State Fault Refusal := .next (s.branchIf 0x7#4 4 disp)

/-- `BVC d:16` (R403). -/
def execBvcD16 (disp : BitVec 16) (s : State) : Host.Outcome State Fault Refusal := .next (s.branchIf 0x8#4 4 disp)

/-- `BVS d:16` (R403). -/
def execBvsD16 (disp : BitVec 16) (s : State) : Host.Outcome State Fault Refusal := .next (s.branchIf 0x9#4 4 disp)

/-- `BPL d:16` (R403). -/
def execBplD16 (disp : BitVec 16) (s : State) : Host.Outcome State Fault Refusal := .next (s.branchIf 0xA#4 4 disp)

/-- `BMI d:16` (R403). -/
def execBmiD16 (disp : BitVec 16) (s : State) : Host.Outcome State Fault Refusal := .next (s.branchIf 0xB#4 4 disp)

/-- `BGE d:16` (R403). -/
def execBgeD16 (disp : BitVec 16) (s : State) : Host.Outcome State Fault Refusal := .next (s.branchIf 0xC#4 4 disp)

/-- `BLT d:16` (R403). -/
def execBltD16 (disp : BitVec 16) (s : State) : Host.Outcome State Fault Refusal := .next (s.branchIf 0xD#4 4 disp)

/-- `BGT d:16` (R403). -/
def execBgtD16 (disp : BitVec 16) (s : State) : Host.Outcome State Fault Refusal := .next (s.branchIf 0xE#4 4 disp)

/-- `BLE d:16` (R403). -/
def execBleD16 (disp : BitVec 16) (s : State) : Host.Outcome State Fault Refusal := .next (s.branchIf 0xF#4 4 disp)

/-- `BSR d:8` (R405). -/
def execBsrD8 (disp : BitVec 8) (s : State) : Host.Outcome State Fault Refusal :=
  .next (s.call 2 (s.relTarget 2 disp))

/-- `BSR d:16` (R406). -/
def execBsrD16 (disp : BitVec 16) (s : State) : Host.Outcome State Fault Refusal :=
  .next (s.call 4 (s.relTarget 4 disp))

/-- `JMP @ERn` (R407). -/
def execJmpInd (ern : ERn) (s : State) : Host.Outcome State Fault Refusal := .next (s.setPc (s.eaInd ern))

/-- `JMP @aa:24` (R408). -/
def execJmpAbs24 (abs : BitVec 24) (s : State) : Host.Outcome State Fault Refusal := .next (s.setPc (eaAbs24 abs))

/-- `JMP @@aa:8` (R409). -/
def execJmpMemInd (abs : BitVec 8) (s : State) : Host.Outcome State Fault Refusal :=
  let t := s.branchAddress (eaMemInd abs)
  .next (t.2.setPc t.1)

/-- `JSR @ERn` (R410). -/
def execJsrInd (ern : ERn) (s : State) : Host.Outcome State Fault Refusal := .next (s.call 2 (s.eaInd ern))

/-- `JSR @aa:24` (R411). -/
def execJsrAbs24 (abs : BitVec 24) (s : State) : Host.Outcome State Fault Refusal := .next (s.call 4 (eaAbs24 abs))

/-- `JSR @@aa:8` (R412). -/
def execJsrMemInd (abs : BitVec 8) (s : State) : Host.Outcome State Fault Refusal :=
  let t := s.branchAddress (eaMemInd abs)
  .next (t.2.call 2 t.1)

/-- `RTS` (R413). -/
def execRts (s : State) : Host.Outcome State Fault Refusal := .next (s.subPop.2.setPc s.subPop.1)

end Sys2Proof.Machine
end

