-- ==== Sys2Proof/Machine/Logic.lean ====
section
/-! DEFINITION. Logic: AND, OR, XOR, NOT (43_logic_shift.md R300 to R321). One definition per instruction of the table. -/

namespace Sys2Proof.Machine

/-- `AND.B #xx:8,Rd` (R301). -/
def execAndBImm (imm : BitVec 8) (rd : Reg8) (s : State) : Host.Outcome State Fault Refusal :=
  .next ((s.logic8 rd ((s.reg8 rd) &&& imm)).advance 2)

/-- `AND.B Rs,Rd` (R302). -/
def execAndBReg (rs : Reg8) (rd : Reg8) (s : State) : Host.Outcome State Fault Refusal :=
  .next ((s.logic8 rd ((s.reg8 rd) &&& (s.reg8 rs))).advance 2)

/-- `AND.W #xx:16,Rd` (R303). -/
def execAndWImm (imm : BitVec 16) (rd : Reg16) (s : State) : Host.Outcome State Fault Refusal :=
  .next ((s.logic16 rd ((s.reg16 rd) &&& imm)).advance 4)

/-- `AND.W Rs,Rd` (R304). -/
def execAndWReg (rs : Reg16) (rd : Reg16) (s : State) : Host.Outcome State Fault Refusal :=
  .next ((s.logic16 rd ((s.reg16 rd) &&& (s.reg16 rs))).advance 2)

/-- `AND.L #xx:32,ERd` (R305). -/
def execAndLImm (imm : BitVec 32) (erd : ERn) (s : State) : Host.Outcome State Fault Refusal :=
  .next ((s.logic32 erd ((s.er erd) &&& imm)).advance 6)

/-- `AND.L ERs,ERd` (R306). -/
def execAndLReg (ers : ERn) (erd : ERn) (s : State) : Host.Outcome State Fault Refusal :=
  .next ((s.logic32 erd ((s.er erd) &&& (s.er ers))).advance 4)

/-- `OR.B #xx:8,Rd` (R307). -/
def execOrBImm (imm : BitVec 8) (rd : Reg8) (s : State) : Host.Outcome State Fault Refusal :=
  .next ((s.logic8 rd ((s.reg8 rd) ||| imm)).advance 2)

/-- `OR.B Rs,Rd` (R308). -/
def execOrBReg (rs : Reg8) (rd : Reg8) (s : State) : Host.Outcome State Fault Refusal :=
  .next ((s.logic8 rd ((s.reg8 rd) ||| (s.reg8 rs))).advance 2)

/-- `OR.W #xx:16,Rd` (R309). -/
def execOrWImm (imm : BitVec 16) (rd : Reg16) (s : State) : Host.Outcome State Fault Refusal :=
  .next ((s.logic16 rd ((s.reg16 rd) ||| imm)).advance 4)

/-- `OR.W Rs,Rd` (R310). -/
def execOrWReg (rs : Reg16) (rd : Reg16) (s : State) : Host.Outcome State Fault Refusal :=
  .next ((s.logic16 rd ((s.reg16 rd) ||| (s.reg16 rs))).advance 2)

/-- `OR.L #xx:32,ERd` (R311). -/
def execOrLImm (imm : BitVec 32) (erd : ERn) (s : State) : Host.Outcome State Fault Refusal :=
  .next ((s.logic32 erd ((s.er erd) ||| imm)).advance 6)

/-- `OR.L ERs,ERd` (R312). -/
def execOrLReg (ers : ERn) (erd : ERn) (s : State) : Host.Outcome State Fault Refusal :=
  .next ((s.logic32 erd ((s.er erd) ||| (s.er ers))).advance 4)

/-- `XOR.B #xx:8,Rd` (R313). -/
def execXorBImm (imm : BitVec 8) (rd : Reg8) (s : State) : Host.Outcome State Fault Refusal :=
  .next ((s.logic8 rd ((s.reg8 rd) ^^^ imm)).advance 2)

/-- `XOR.B Rs,Rd` (R314). -/
def execXorBReg (rs : Reg8) (rd : Reg8) (s : State) : Host.Outcome State Fault Refusal :=
  .next ((s.logic8 rd ((s.reg8 rd) ^^^ (s.reg8 rs))).advance 2)

/-- `XOR.W #xx:16,Rd` (R315). -/
def execXorWImm (imm : BitVec 16) (rd : Reg16) (s : State) : Host.Outcome State Fault Refusal :=
  .next ((s.logic16 rd ((s.reg16 rd) ^^^ imm)).advance 4)

/-- `XOR.W Rs,Rd` (R316). -/
def execXorWReg (rs : Reg16) (rd : Reg16) (s : State) : Host.Outcome State Fault Refusal :=
  .next ((s.logic16 rd ((s.reg16 rd) ^^^ (s.reg16 rs))).advance 2)

/-- `XOR.L #xx:32,ERd` (R317). -/
def execXorLImm (imm : BitVec 32) (erd : ERn) (s : State) : Host.Outcome State Fault Refusal :=
  .next ((s.logic32 erd ((s.er erd) ^^^ imm)).advance 6)

/-- `XOR.L ERs,ERd` (R318). -/
def execXorLReg (ers : ERn) (erd : ERn) (s : State) : Host.Outcome State Fault Refusal :=
  .next ((s.logic32 erd ((s.er erd) ^^^ (s.er ers))).advance 4)

/-- `NOT.B Rd` (R319). -/
def execNotB (rd : Reg8) (s : State) : Host.Outcome State Fault Refusal :=
  .next ((s.logic8 rd (~~~(s.reg8 rd))).advance 2)

/-- `NOT.W Rd` (R320). -/
def execNotW (rd : Reg16) (s : State) : Host.Outcome State Fault Refusal :=
  .next ((s.logic16 rd (~~~(s.reg16 rd))).advance 2)

/-- `NOT.L ERd` (R321). -/
def execNotL (erd : ERn) (s : State) : Host.Outcome State Fault Refusal :=
  .next ((s.logic32 erd (~~~(s.er erd))).advance 2)

end Sys2Proof.Machine
end

