-- ==== Sys2Proof/Machine/Mov.lean ====
section
/-! DEFINITION. Data transfer: MOV, PUSH, POP, MOVFPE, MOVTPE (41_data_transfer.md). One definition per instruction of the table. -/

namespace Sys2Proof.Machine

/-- `MOV.B #xx:8,Rd` (R173). -/
def execMovBImm (imm : BitVec 8) (rd : Reg8) (s : State) : Host.Outcome State Fault Refusal :=
  .next ((s.moveInto8 rd imm).advance 2)

/-- `MOV.B Rs,Rd` (R174). -/
def execMovBReg (rs : Reg8) (rd : Reg8) (s : State) : Host.Outcome State Fault Refusal :=
  .next ((s.moveInto8 rd (s.reg8 rs)).advance 2)

/-- `MOV.B @ERs,Rd` (R175). -/
def execMovBLoadInd (ers : ERn) (rd : Reg8) (s : State) : Host.Outcome State Fault Refusal :=
  .next ((s.loadInto8 (s.eaInd ers) rd).advance 2)

/-- `MOV.B @(d:16,ERs),Rd` (R176). -/
def execMovBLoadDisp16 (disp : BitVec 16) (ers : ERn) (rd : Reg8) (s : State) : Host.Outcome State Fault Refusal :=
  .next ((s.loadInto8 (s.eaDisp16 disp ers) rd).advance 4)

/-- `MOV.B @(d:24,ERs),Rd` (R177). -/
def execMovBLoadDisp24 (disp : BitVec 24) (ers : ERn) (rd : Reg8) (s : State) : Host.Outcome State Fault Refusal :=
  .next ((s.loadInto8 (s.eaDisp24 disp ers) rd).advance 8)

/-- `MOV.B @ERs+,Rd` (R178). -/
def execMovBLoadPostInc (ers : ERn) (rd : Reg8) (s : State) : Host.Outcome State Fault Refusal :=
  .next ((s.loadPostInc8 ers rd).advance 2)

/-- `MOV.B @aa:8,Rd` (R179). -/
def execMovBLoadAbs8 (abs : BitVec 8) (rd : Reg8) (s : State) : Host.Outcome State Fault Refusal :=
  .next ((s.loadInto8 (eaAbs8 abs) rd).advance 2)

/-- `MOV.B @aa:16,Rd` (R180). -/
def execMovBLoadAbs16 (abs : BitVec 16) (rd : Reg8) (s : State) : Host.Outcome State Fault Refusal :=
  .next ((s.loadInto8 (eaAbs16 abs) rd).advance 4)

/-- `MOV.B @aa:24,Rd` (R181). -/
def execMovBLoadAbs24 (abs : BitVec 24) (rd : Reg8) (s : State) : Host.Outcome State Fault Refusal :=
  .next ((s.loadInto8 (eaAbs24 abs) rd).advance 6)

/-- `MOV.B Rs,@ERd` (R182). -/
def execMovBStoreInd (rs : Reg8) (erd : ERn) (s : State) : Host.Outcome State Fault Refusal :=
  .next ((s.storeFrom8 (s.eaInd erd) (s.reg8 rs)).advance 2)

/-- `MOV.B Rs,@-ERd` (R183). -/
def execMovBStorePreDec (rs : Reg8) (erd : ERn) (s : State) : Host.Outcome State Fault Refusal :=
  .next ((s.storePreDec8 rs erd).advance 2)

/-- `MOV.B Rs,@(d:16,ERd)` (R184). -/
def execMovBStoreDisp16 (rs : Reg8) (disp : BitVec 16) (erd : ERn) (s : State) : Host.Outcome State Fault Refusal :=
  .next ((s.storeFrom8 (s.eaDisp16 disp erd) (s.reg8 rs)).advance 4)

/-- `MOV.B Rs,@(d:24,ERd)` (R185). -/
def execMovBStoreDisp24 (rs : Reg8) (disp : BitVec 24) (erd : ERn) (s : State) : Host.Outcome State Fault Refusal :=
  .next ((s.storeFrom8 (s.eaDisp24 disp erd) (s.reg8 rs)).advance 8)

/-- `MOV.B Rs,@aa:8` (R186). -/
def execMovBStoreAbs8 (rs : Reg8) (abs : BitVec 8) (s : State) : Host.Outcome State Fault Refusal :=
  .next ((s.storeFrom8 (eaAbs8 abs) (s.reg8 rs)).advance 2)

/-- `MOV.B Rs,@aa:16` (R187). -/
def execMovBStoreAbs16 (rs : Reg8) (abs : BitVec 16) (s : State) : Host.Outcome State Fault Refusal :=
  .next ((s.storeFrom8 (eaAbs16 abs) (s.reg8 rs)).advance 4)

/-- `MOV.B Rs,@aa:24` (R188). -/
def execMovBStoreAbs24 (rs : Reg8) (abs : BitVec 24) (s : State) : Host.Outcome State Fault Refusal :=
  .next ((s.storeFrom8 (eaAbs24 abs) (s.reg8 rs)).advance 6)

/-- `MOV.W #xx:16,Rd` (R189). -/
def execMovWImm (imm : BitVec 16) (rd : Reg16) (s : State) : Host.Outcome State Fault Refusal :=
  .next ((s.moveInto16 rd imm).advance 4)

/-- `MOV.W Rs,Rd` (R190). -/
def execMovWReg (rs : Reg16) (rd : Reg16) (s : State) : Host.Outcome State Fault Refusal :=
  .next ((s.moveInto16 rd (s.reg16 rs)).advance 2)

/-- `MOV.W @ERs,Rd` (R191). -/
def execMovWLoadInd (ers : ERn) (rd : Reg16) (s : State) : Host.Outcome State Fault Refusal :=
  .next ((s.loadInto16 (s.eaInd ers) rd).advance 2)

/-- `MOV.W @(d:16,ERs),Rd` (R192). -/
def execMovWLoadDisp16 (disp : BitVec 16) (ers : ERn) (rd : Reg16) (s : State) : Host.Outcome State Fault Refusal :=
  .next ((s.loadInto16 (s.eaDisp16 disp ers) rd).advance 4)

/-- `MOV.W @(d:24,ERs),Rd` (R193). -/
def execMovWLoadDisp24 (disp : BitVec 24) (ers : ERn) (rd : Reg16) (s : State) : Host.Outcome State Fault Refusal :=
  .next ((s.loadInto16 (s.eaDisp24 disp ers) rd).advance 8)

/-- `MOV.W @ERs+,Rd` (R194). -/
def execMovWLoadPostInc (ers : ERn) (rd : Reg16) (s : State) : Host.Outcome State Fault Refusal :=
  .next ((s.loadPostInc16 ers rd).advance 2)

/-- `MOV.W @aa:16,Rd` (R195). -/
def execMovWLoadAbs16 (abs : BitVec 16) (rd : Reg16) (s : State) : Host.Outcome State Fault Refusal :=
  .next ((s.loadInto16 (eaAbs16 abs) rd).advance 4)

/-- `MOV.W @aa:24,Rd` (R196). -/
def execMovWLoadAbs24 (abs : BitVec 24) (rd : Reg16) (s : State) : Host.Outcome State Fault Refusal :=
  .next ((s.loadInto16 (eaAbs24 abs) rd).advance 6)

/-- `MOV.W Rs,@ERd` (R197). -/
def execMovWStoreInd (rs : Reg16) (erd : ERn) (s : State) : Host.Outcome State Fault Refusal :=
  .next ((s.storeFrom16 (s.eaInd erd) (s.reg16 rs)).advance 2)

/-- `MOV.W Rs,@-ERd` (R198). -/
def execMovWStorePreDec (rs : Reg16) (erd : ERn) (s : State) : Host.Outcome State Fault Refusal :=
  .next ((s.storePreDec16 rs erd).advance 2)

/-- `MOV.W Rs,@(d:16,ERd)` (R199). -/
def execMovWStoreDisp16 (rs : Reg16) (disp : BitVec 16) (erd : ERn) (s : State) : Host.Outcome State Fault Refusal :=
  .next ((s.storeFrom16 (s.eaDisp16 disp erd) (s.reg16 rs)).advance 4)

/-- `MOV.W Rs,@(d:24,ERd)` (R200). -/
def execMovWStoreDisp24 (rs : Reg16) (disp : BitVec 24) (erd : ERn) (s : State) : Host.Outcome State Fault Refusal :=
  .next ((s.storeFrom16 (s.eaDisp24 disp erd) (s.reg16 rs)).advance 8)

/-- `MOV.W Rs,@aa:16` (R201). -/
def execMovWStoreAbs16 (rs : Reg16) (abs : BitVec 16) (s : State) : Host.Outcome State Fault Refusal :=
  .next ((s.storeFrom16 (eaAbs16 abs) (s.reg16 rs)).advance 4)

/-- `MOV.W Rs,@aa:24` (R202). -/
def execMovWStoreAbs24 (rs : Reg16) (abs : BitVec 24) (s : State) : Host.Outcome State Fault Refusal :=
  .next ((s.storeFrom16 (eaAbs24 abs) (s.reg16 rs)).advance 6)

/-- `MOV.L #xx:32,ERd` (R204). -/
def execMovLImm (imm : BitVec 32) (erd : ERn) (s : State) : Host.Outcome State Fault Refusal :=
  .next ((s.moveInto32 erd imm).advance 6)

/-- `MOV.L ERs,ERd` (R205). -/
def execMovLReg (ers : ERn) (erd : ERn) (s : State) : Host.Outcome State Fault Refusal :=
  .next ((s.moveInto32 erd (s.er ers)).advance 2)

/-- `MOV.L @ERs,ERd` (R206). -/
def execMovLLoadInd (ers : ERn) (erd : ERn) (s : State) : Host.Outcome State Fault Refusal :=
  .next ((s.loadInto32 (s.eaInd ers) erd).advance 4)

/-- `MOV.L @(d:16,ERs),ERd` (R207). -/
def execMovLLoadDisp16 (disp : BitVec 16) (ers : ERn) (erd : ERn) (s : State) : Host.Outcome State Fault Refusal :=
  .next ((s.loadInto32 (s.eaDisp16 disp ers) erd).advance 6)

/-- `MOV.L @(d:24,ERs),ERd` (R208). -/
def execMovLLoadDisp24 (disp : BitVec 24) (ers : ERn) (erd : ERn) (s : State) : Host.Outcome State Fault Refusal :=
  .next ((s.loadInto32 (s.eaDisp24 disp ers) erd).advance 10)

/-- `MOV.L @ERs+,ERd` (R209). -/
def execMovLLoadPostInc (ers : ERn) (erd : ERn) (s : State) : Host.Outcome State Fault Refusal :=
  .next ((s.loadPostInc32 ers erd).advance 4)

/-- `MOV.L @aa:16,ERd` (R210). -/
def execMovLLoadAbs16 (abs : BitVec 16) (erd : ERn) (s : State) : Host.Outcome State Fault Refusal :=
  .next ((s.loadInto32 (eaAbs16 abs) erd).advance 6)

/-- `MOV.L @aa:24,ERd` (R211). -/
def execMovLLoadAbs24 (abs : BitVec 24) (erd : ERn) (s : State) : Host.Outcome State Fault Refusal :=
  .next ((s.loadInto32 (eaAbs24 abs) erd).advance 8)

/-- `MOV.L ERs,@-ERd` (R212). -/
def execMovLStorePreDec (ers : ERn) (erd : ERn) (s : State) : Host.Outcome State Fault Refusal :=
  .next ((s.storePreDec32 ers erd).advance 4)

/-- `MOV.L ERs,@ERd` (R213). -/
def execMovLStoreInd (ers : ERn) (erd : ERn) (s : State) : Host.Outcome State Fault Refusal :=
  .next ((s.storeFrom32 (s.eaInd erd) (s.er ers)).advance 4)

/-- `MOV.L ERs,@(d:16,ERd)` (R214). -/
def execMovLStoreDisp16 (ers : ERn) (disp : BitVec 16) (erd : ERn) (s : State) : Host.Outcome State Fault Refusal :=
  .next ((s.storeFrom32 (s.eaDisp16 disp erd) (s.er ers)).advance 6)

/-- `MOV.L ERs,@(d:24,ERd)` (R215). -/
def execMovLStoreDisp24 (ers : ERn) (disp : BitVec 24) (erd : ERn) (s : State) : Host.Outcome State Fault Refusal :=
  .next ((s.storeFrom32 (s.eaDisp24 disp erd) (s.er ers)).advance 10)

/-- `MOV.L ERs,@aa:16` (R216). -/
def execMovLStoreAbs16 (ers : ERn) (abs : BitVec 16) (s : State) : Host.Outcome State Fault Refusal :=
  .next ((s.storeFrom32 (eaAbs16 abs) (s.er ers)).advance 6)

/-- `MOV.L ERs,@aa:24` (R219). -/
def execMovLStoreAbs24 (ers : ERn) (abs : BitVec 24) (s : State) : Host.Outcome State Fault Refusal :=
  .next ((s.storeFrom32 (eaAbs24 abs) (s.er ers)).advance 8)

/-- `PUSH.W Rn` (R217). -/
def execPushW (rn : Reg16) (s : State) : Host.Outcome State Fault Refusal :=
  .next ((s.storePreDec16 rn 7#3).advance 2)

/-- `PUSH.L ERn` (R218). -/
def execPushL (ern : ERn) (s : State) : Host.Outcome State Fault Refusal :=
  .next ((s.storePreDec32 ern 7#3).advance 4)

/-- `POP.W Rn` (R220). -/
def execPopW (rn : Reg16) (s : State) : Host.Outcome State Fault Refusal := .next ((s.loadPostInc16 7#3 rn).advance 2)

/-- `POP.L ERn` (R221). -/
def execPopL (ern : ERn) (s : State) : Host.Outcome State Fault Refusal := .next ((s.loadPostInc32 7#3 ern).advance 4)

/-- `MOVFPE @aa:16,Rd` (R222). -/
def execMovfpe (abs : BitVec 16) (rd : Reg8) (s : State) : Host.Outcome State Fault Refusal :=
  if s.hasEClock then .next ((s.loadInto8 (eaAbs16 abs) rd).advance 4) else .refused .noEClock

/-- `MOVTPE Rs,@aa:16` (R223). -/
def execMovtpe (rs : Reg8) (abs : BitVec 16) (s : State) : Host.Outcome State Fault Refusal :=
  if s.hasEClock then .next ((s.storeFrom8 (eaAbs16 abs) (s.reg8 rs)).advance 4) else .refused .noEClock

end Sys2Proof.Machine
end

