-- ==== Sys2Proof/Machine/Shift.lean ====
section
/-! DEFINITION. Shifts and rotates (43_logic_shift.md R322 to R346). One definition per instruction of the table. -/

namespace Sys2Proof.Machine

/-- `SHAL.B Rd` (R323). -/
def execShalB (rd : Reg8) (s : State) : Host.Outcome State Fault Refusal :=
  .next ((s.shift8 rd (shiftShal (s.reg8 rd))).advance 2)

/-- `SHAL.W Rd` (R324). -/
def execShalW (rd : Reg16) (s : State) : Host.Outcome State Fault Refusal :=
  .next ((s.shift16 rd (shiftShal (s.reg16 rd))).advance 2)

/-- `SHAL.L ERd` (R325). -/
def execShalL (erd : ERn) (s : State) : Host.Outcome State Fault Refusal :=
  .next ((s.shift32 erd (shiftShal (s.er erd))).advance 2)

/-- `SHAR.B Rd` (R326). -/
def execSharB (rd : Reg8) (s : State) : Host.Outcome State Fault Refusal :=
  .next ((s.shift8 rd (shiftShar (s.reg8 rd))).advance 2)

/-- `SHAR.W Rd` (R327). -/
def execSharW (rd : Reg16) (s : State) : Host.Outcome State Fault Refusal :=
  .next ((s.shift16 rd (shiftShar (s.reg16 rd))).advance 2)

/-- `SHAR.L ERd` (R328). -/
def execSharL (erd : ERn) (s : State) : Host.Outcome State Fault Refusal :=
  .next ((s.shift32 erd (shiftShar (s.er erd))).advance 2)

/-- `SHLL.B Rd` (R329). -/
def execShllB (rd : Reg8) (s : State) : Host.Outcome State Fault Refusal :=
  .next ((s.shift8 rd (shiftShll (s.reg8 rd))).advance 2)

/-- `SHLL.W Rd` (R330). -/
def execShllW (rd : Reg16) (s : State) : Host.Outcome State Fault Refusal :=
  .next ((s.shift16 rd (shiftShll (s.reg16 rd))).advance 2)

/-- `SHLL.L ERd` (R331). -/
def execShllL (erd : ERn) (s : State) : Host.Outcome State Fault Refusal :=
  .next ((s.shift32 erd (shiftShll (s.er erd))).advance 2)

/-- `SHLR.B Rd` (R332). -/
def execShlrB (rd : Reg8) (s : State) : Host.Outcome State Fault Refusal :=
  .next ((s.shift8 rd (shiftShlr (s.reg8 rd))).advance 2)

/-- `SHLR.W Rd` (R333). -/
def execShlrW (rd : Reg16) (s : State) : Host.Outcome State Fault Refusal :=
  .next ((s.shift16 rd (shiftShlr (s.reg16 rd))).advance 2)

/-- `SHLR.L ERd` (R334). -/
def execShlrL (erd : ERn) (s : State) : Host.Outcome State Fault Refusal :=
  .next ((s.shift32 erd (shiftShlr (s.er erd))).advance 2)

/-- `ROTL.B Rd` (R335). -/
def execRotlB (rd : Reg8) (s : State) : Host.Outcome State Fault Refusal :=
  .next ((s.shift8 rd (shiftRotl (s.reg8 rd))).advance 2)

/-- `ROTL.W Rd` (R336). -/
def execRotlW (rd : Reg16) (s : State) : Host.Outcome State Fault Refusal :=
  .next ((s.shift16 rd (shiftRotl (s.reg16 rd))).advance 2)

/-- `ROTL.L ERd` (R337). -/
def execRotlL (erd : ERn) (s : State) : Host.Outcome State Fault Refusal :=
  .next ((s.shift32 erd (shiftRotl (s.er erd))).advance 2)

/-- `ROTR.B Rd` (R338). -/
def execRotrB (rd : Reg8) (s : State) : Host.Outcome State Fault Refusal :=
  .next ((s.shift8 rd (shiftRotr (s.reg8 rd))).advance 2)

/-- `ROTR.W Rd` (R339). -/
def execRotrW (rd : Reg16) (s : State) : Host.Outcome State Fault Refusal :=
  .next ((s.shift16 rd (shiftRotr (s.reg16 rd))).advance 2)

/-- `ROTR.L ERd` (R340). -/
def execRotrL (erd : ERn) (s : State) : Host.Outcome State Fault Refusal :=
  .next ((s.shift32 erd (shiftRotr (s.er erd))).advance 2)

/-- `ROTXL.B Rd` (R341). -/
def execRotxlB (rd : Reg8) (s : State) : Host.Outcome State Fault Refusal :=
  .next ((s.shift8 rd (shiftRotxl (s.flag .c) (s.reg8 rd))).advance 2)

/-- `ROTXL.W Rd` (R342). -/
def execRotxlW (rd : Reg16) (s : State) : Host.Outcome State Fault Refusal :=
  .next ((s.shift16 rd (shiftRotxl (s.flag .c) (s.reg16 rd))).advance 2)

/-- `ROTXL.L ERd` (R343). -/
def execRotxlL (erd : ERn) (s : State) : Host.Outcome State Fault Refusal :=
  .next ((s.shift32 erd (shiftRotxl (s.flag .c) (s.er erd))).advance 2)

/-- `ROTXR.B Rd` (R344). -/
def execRotxrB (rd : Reg8) (s : State) : Host.Outcome State Fault Refusal :=
  .next ((s.shift8 rd (shiftRotxr (s.flag .c) (s.reg8 rd))).advance 2)

/-- `ROTXR.W Rd` (R345). -/
def execRotxrW (rd : Reg16) (s : State) : Host.Outcome State Fault Refusal :=
  .next ((s.shift16 rd (shiftRotxr (s.flag .c) (s.reg16 rd))).advance 2)

/-- `ROTXR.L ERd` (R346). -/
def execRotxrL (erd : ERn) (s : State) : Host.Outcome State Fault Refusal :=
  .next ((s.shift32 erd (shiftRotxr (s.flag .c) (s.er erd))).advance 2)

end Sys2Proof.Machine
end

