-- ==== Sys2Proof/Machine/System.lean ====
section
/-! DEFINITION. System control: TRAPA, RTE, SLEEP, LDC, STC, ANDC, ORC, XORC, NOP (46_system.md). One definition per instruction of the table. -/

namespace Sys2Proof.Machine

/-- `TRAPA #x:2` (R431). -/
def execTrapa (imm : BitVec 2) (s : State) : Host.Outcome State Fault Refusal :=
  .next (s.exceptionEntry (s.nextPc 2) (s.trapVector imm))

/-- `RTE` (R432). -/
def execRte (s : State) : Host.Outcome State Fault Refusal := .next s.exceptionReturn

/-- `SLEEP` (R433, R500, R501). In software standby the peripheral modules enter their reset state: the model holds nothing of
them (log 7). -/
def execSleep (s : State) : Host.Outcome State Fault Refusal :=
  let p := if s.ssby then ProcState.softwareStandby else ProcState.sleep
  .next { s.advance 2 with proc := p }

/-- `LDC.B #xx:8,CCR` (R434). -/
def execLdcBImm (imm : BitVec 8) (s : State) : Host.Outcome State Fault Refusal := .next ((s.loadCcr imm).advance 2)

/-- `LDC.B Rs,CCR` (R435). -/
def execLdcBReg (rs : Reg8) (s : State) : Host.Outcome State Fault Refusal :=
  .next ((s.loadCcr (s.reg8 rs)).advance 2)

/-- `LDC.W @ERs,CCR` (R437). -/
def execLdcWLoadInd (ers : ERn) (s : State) : Host.Outcome State Fault Refusal :=
  .next ((s.ldcW (s.eaInd ers)).advance 4)

/-- `LDC.W @(d:16,ERs),CCR` (R438). -/
def execLdcWLoadDisp16 (disp : BitVec 16) (ers : ERn) (s : State) : Host.Outcome State Fault Refusal :=
  .next ((s.ldcW (s.eaDisp16 disp ers)).advance 6)

/-- `LDC.W @(d:24,ERs),CCR` (R439). -/
def execLdcWLoadDisp24 (disp : BitVec 24) (ers : ERn) (s : State) : Host.Outcome State Fault Refusal :=
  .next ((s.ldcW (s.eaDisp24 disp ers)).advance 10)

/-- `LDC.W @ERs+,CCR` (R440). -/
def execLdcWLoadPostInc (ers : ERn) (s : State) : Host.Outcome State Fault Refusal :=
  .next (((s.ldcW (s.eaInd ers)).setEr ers (s.er ers + 2)).advance 4)

/-- `LDC.W @aa:16,CCR` (R441). -/
def execLdcWLoadAbs16 (abs : BitVec 16) (s : State) : Host.Outcome State Fault Refusal :=
  .next ((s.ldcW (eaAbs16 abs)).advance 6)

/-- `LDC.W @aa:24,CCR` (R442). -/
def execLdcWLoadAbs24 (abs : BitVec 24) (s : State) : Host.Outcome State Fault Refusal :=
  .next ((s.ldcW (eaAbs24 abs)).advance 8)

/-- `STC.B CCR,Rd` (R443). -/
def execStcBReg (rd : Reg8) (s : State) : Host.Outcome State Fault Refusal := .next ((s.setReg8 rd s.ccr).advance 2)

/-- `STC.W CCR,@ERd` (R445). -/
def execStcWStoreInd (erd : ERn) (s : State) : Host.Outcome State Fault Refusal :=
  .next ((s.stcW (s.eaInd erd)).advance 4)

/-- `STC.W CCR,@(d:16,ERd)` (R446). -/
def execStcWStoreDisp16 (disp : BitVec 16) (erd : ERn) (s : State) : Host.Outcome State Fault Refusal :=
  .next ((s.stcW (s.eaDisp16 disp erd)).advance 6)

/-- `STC.W CCR,@(d:24,ERd)` (R448). -/
def execStcWStoreDisp24 (disp : BitVec 24) (erd : ERn) (s : State) : Host.Outcome State Fault Refusal :=
  .next ((s.stcW (s.eaDisp24 disp erd)).advance 10)

/-- `STC.W CCR,@-ERd` (R449). -/
def execStcWStorePreDec (erd : ERn) (s : State) : Host.Outcome State Fault Refusal :=
  let s1 := s.setEr erd (s.er erd - 2)
  .next ((s1.stcW (s1.eaInd erd)).advance 4)

/-- `STC.W CCR,@aa:16` (R450). -/
def execStcWStoreAbs16 (abs : BitVec 16) (s : State) : Host.Outcome State Fault Refusal :=
  .next ((s.stcW (eaAbs16 abs)).advance 6)

/-- `STC.W CCR,@aa:24` (R451). -/
def execStcWStoreAbs24 (abs : BitVec 24) (s : State) : Host.Outcome State Fault Refusal :=
  .next ((s.stcW (eaAbs24 abs)).advance 8)

/-- `ANDC #xx:8,CCR` (R452). -/
def execAndc (imm : BitVec 8) (s : State) : Host.Outcome State Fault Refusal :=
  .next ((s.loadCcr (s.ccr &&& imm)).advance 2)

/-- `ORC #xx:8,CCR` (R453). -/
def execOrc (imm : BitVec 8) (s : State) : Host.Outcome State Fault Refusal :=
  .next ((s.loadCcr (s.ccr ||| imm)).advance 2)

/-- `XORC #xx:8,CCR` (R454). -/
def execXorc (imm : BitVec 8) (s : State) : Host.Outcome State Fault Refusal :=
  .next ((s.loadCcr (s.ccr ^^^ imm)).advance 2)

/-- `NOP` (R455). -/
def execNop (s : State) : Host.Outcome State Fault Refusal := .next (s.advance 2)

end Sys2Proof.Machine
end

