-- ==== Sys2Proof/Machine/Dispatch.lean ====
section
/-! DEFINITION. One arm per instruction: a direct call of its meaning. -/

namespace Sys2Proof.Machine

def exec (i : Instr) (s : State) : Host.Outcome State Fault Refusal :=
  match i with
  | .movBImm imm rd => Sys2Proof.Machine.execMovBImm imm rd s
  | .movBReg rs rd => Sys2Proof.Machine.execMovBReg rs rd s
  | .movBLoadInd ers rd => Sys2Proof.Machine.execMovBLoadInd ers rd s
  | .movBLoadDisp16 disp ers rd => Sys2Proof.Machine.execMovBLoadDisp16 disp ers rd s
  | .movBLoadDisp24 disp ers rd => Sys2Proof.Machine.execMovBLoadDisp24 disp ers rd s
  | .movBLoadPostInc ers rd => Sys2Proof.Machine.execMovBLoadPostInc ers rd s
  | .movBLoadAbs8 abs rd => Sys2Proof.Machine.execMovBLoadAbs8 abs rd s
  | .movBLoadAbs16 abs rd => Sys2Proof.Machine.execMovBLoadAbs16 abs rd s
  | .movBLoadAbs24 abs rd => Sys2Proof.Machine.execMovBLoadAbs24 abs rd s
  | .movBStoreInd rs erd => Sys2Proof.Machine.execMovBStoreInd rs erd s
  | .movBStorePreDec rs erd => Sys2Proof.Machine.execMovBStorePreDec rs erd s
  | .movBStoreDisp16 rs disp erd => Sys2Proof.Machine.execMovBStoreDisp16 rs disp erd s
  | .movBStoreDisp24 rs disp erd => Sys2Proof.Machine.execMovBStoreDisp24 rs disp erd s
  | .movBStoreAbs8 rs abs => Sys2Proof.Machine.execMovBStoreAbs8 rs abs s
  | .movBStoreAbs16 rs abs => Sys2Proof.Machine.execMovBStoreAbs16 rs abs s
  | .movBStoreAbs24 rs abs => Sys2Proof.Machine.execMovBStoreAbs24 rs abs s
  | .movWImm imm rd => Sys2Proof.Machine.execMovWImm imm rd s
  | .movWReg rs rd => Sys2Proof.Machine.execMovWReg rs rd s
  | .movWLoadInd ers rd => Sys2Proof.Machine.execMovWLoadInd ers rd s
  | .movWLoadDisp16 disp ers rd => Sys2Proof.Machine.execMovWLoadDisp16 disp ers rd s
  | .movWLoadDisp24 disp ers rd => Sys2Proof.Machine.execMovWLoadDisp24 disp ers rd s
  | .movWLoadPostInc ers rd => Sys2Proof.Machine.execMovWLoadPostInc ers rd s
  | .movWLoadAbs16 abs rd => Sys2Proof.Machine.execMovWLoadAbs16 abs rd s
  | .movWLoadAbs24 abs rd => Sys2Proof.Machine.execMovWLoadAbs24 abs rd s
  | .movWStoreInd rs erd => Sys2Proof.Machine.execMovWStoreInd rs erd s
  | .movWStorePreDec rs erd => Sys2Proof.Machine.execMovWStorePreDec rs erd s
  | .movWStoreDisp16 rs disp erd => Sys2Proof.Machine.execMovWStoreDisp16 rs disp erd s
  | .movWStoreDisp24 rs disp erd => Sys2Proof.Machine.execMovWStoreDisp24 rs disp erd s
  | .movWStoreAbs16 rs abs => Sys2Proof.Machine.execMovWStoreAbs16 rs abs s
  | .movWStoreAbs24 rs abs => Sys2Proof.Machine.execMovWStoreAbs24 rs abs s
  | .movLImm imm erd => Sys2Proof.Machine.execMovLImm imm erd s
  | .movLReg ers erd => Sys2Proof.Machine.execMovLReg ers erd s
  | .movLLoadInd ers erd => Sys2Proof.Machine.execMovLLoadInd ers erd s
  | .movLLoadDisp16 disp ers erd => Sys2Proof.Machine.execMovLLoadDisp16 disp ers erd s
  | .movLLoadDisp24 disp ers erd => Sys2Proof.Machine.execMovLLoadDisp24 disp ers erd s
  | .movLLoadPostInc ers erd => Sys2Proof.Machine.execMovLLoadPostInc ers erd s
  | .movLLoadAbs16 abs erd => Sys2Proof.Machine.execMovLLoadAbs16 abs erd s
  | .movLLoadAbs24 abs erd => Sys2Proof.Machine.execMovLLoadAbs24 abs erd s
  | .movLStorePreDec ers erd => Sys2Proof.Machine.execMovLStorePreDec ers erd s
  | .movLStoreInd ers erd => Sys2Proof.Machine.execMovLStoreInd ers erd s
  | .movLStoreDisp16 ers disp erd => Sys2Proof.Machine.execMovLStoreDisp16 ers disp erd s
  | .movLStoreDisp24 ers disp erd => Sys2Proof.Machine.execMovLStoreDisp24 ers disp erd s
  | .movLStoreAbs16 ers abs => Sys2Proof.Machine.execMovLStoreAbs16 ers abs s
  | .movLStoreAbs24 ers abs => Sys2Proof.Machine.execMovLStoreAbs24 ers abs s
  | .pushW rn => Sys2Proof.Machine.execPushW rn s
  | .pushL ern => Sys2Proof.Machine.execPushL ern s
  | .popW rn => Sys2Proof.Machine.execPopW rn s
  | .popL ern => Sys2Proof.Machine.execPopL ern s
  | .movfpe abs rd => Sys2Proof.Machine.execMovfpe abs rd s
  | .movtpe rs abs => Sys2Proof.Machine.execMovtpe rs abs s
  | .addBImm imm rd => Sys2Proof.Machine.execAddBImm imm rd s
  | .addBReg rs rd => Sys2Proof.Machine.execAddBReg rs rd s
  | .addWImm imm rd => Sys2Proof.Machine.execAddWImm imm rd s
  | .addWReg rs rd => Sys2Proof.Machine.execAddWReg rs rd s
  | .addLImm imm erd => Sys2Proof.Machine.execAddLImm imm erd s
  | .addLReg ers erd => Sys2Proof.Machine.execAddLReg ers erd s
  | .adds1 erd => Sys2Proof.Machine.execAdds1 erd s
  | .adds2 erd => Sys2Proof.Machine.execAdds2 erd s
  | .adds4 erd => Sys2Proof.Machine.execAdds4 erd s
  | .addxImm imm rd => Sys2Proof.Machine.execAddxImm imm rd s
  | .addxReg rs rd => Sys2Proof.Machine.execAddxReg rs rd s
  | .cmpBImm imm rd => Sys2Proof.Machine.execCmpBImm imm rd s
  | .cmpBReg rs rd => Sys2Proof.Machine.execCmpBReg rs rd s
  | .cmpWImm imm rd => Sys2Proof.Machine.execCmpWImm imm rd s
  | .cmpWReg rs rd => Sys2Proof.Machine.execCmpWReg rs rd s
  | .cmpLImm imm erd => Sys2Proof.Machine.execCmpLImm imm erd s
  | .cmpLReg ers erd => Sys2Proof.Machine.execCmpLReg ers erd s
  | .daa rd => Sys2Proof.Machine.execDaa rd s
  | .das rd => Sys2Proof.Machine.execDas rd s
  | .decB rd => Sys2Proof.Machine.execDecB rd s
  | .decW1 rd => Sys2Proof.Machine.execDecW1 rd s
  | .decW2 rd => Sys2Proof.Machine.execDecW2 rd s
  | .decL1 erd => Sys2Proof.Machine.execDecL1 erd s
  | .decL2 erd => Sys2Proof.Machine.execDecL2 erd s
  | .divxsBReg rs rd => Sys2Proof.Machine.execDivxsBReg rs rd s
  | .divxsWReg rs erd => Sys2Proof.Machine.execDivxsWReg rs erd s
  | .divxuBReg rs rd => Sys2Proof.Machine.execDivxuBReg rs rd s
  | .divxuWReg rs erd => Sys2Proof.Machine.execDivxuWReg rs erd s
  | .extsW rd => Sys2Proof.Machine.execExtsW rd s
  | .extsL erd => Sys2Proof.Machine.execExtsL erd s
  | .extuW rd => Sys2Proof.Machine.execExtuW rd s
  | .extuL erd => Sys2Proof.Machine.execExtuL erd s
  | .incB rd => Sys2Proof.Machine.execIncB rd s
  | .incW1 rd => Sys2Proof.Machine.execIncW1 rd s
  | .incW2 rd => Sys2Proof.Machine.execIncW2 rd s
  | .incL1 erd => Sys2Proof.Machine.execIncL1 erd s
  | .incL2 erd => Sys2Proof.Machine.execIncL2 erd s
  | .mulxsBReg rs rd => Sys2Proof.Machine.execMulxsBReg rs rd s
  | .mulxsWReg rs erd => Sys2Proof.Machine.execMulxsWReg rs erd s
  | .mulxuBReg rs rd => Sys2Proof.Machine.execMulxuBReg rs rd s
  | .mulxuWReg rs erd => Sys2Proof.Machine.execMulxuWReg rs erd s
  | .negB rd => Sys2Proof.Machine.execNegB rd s
  | .negW rd => Sys2Proof.Machine.execNegW rd s
  | .negL erd => Sys2Proof.Machine.execNegL erd s
  | .subBReg rs rd => Sys2Proof.Machine.execSubBReg rs rd s
  | .subWImm imm rd => Sys2Proof.Machine.execSubWImm imm rd s
  | .subWReg rs rd => Sys2Proof.Machine.execSubWReg rs rd s
  | .subLImm imm erd => Sys2Proof.Machine.execSubLImm imm erd s
  | .subLReg ers erd => Sys2Proof.Machine.execSubLReg ers erd s
  | .subs1 erd => Sys2Proof.Machine.execSubs1 erd s
  | .subs2 erd => Sys2Proof.Machine.execSubs2 erd s
  | .subs4 erd => Sys2Proof.Machine.execSubs4 erd s
  | .subxImm imm rd => Sys2Proof.Machine.execSubxImm imm rd s
  | .subxReg rs rd => Sys2Proof.Machine.execSubxReg rs rd s
  | .andBImm imm rd => Sys2Proof.Machine.execAndBImm imm rd s
  | .andBReg rs rd => Sys2Proof.Machine.execAndBReg rs rd s
  | .andWImm imm rd => Sys2Proof.Machine.execAndWImm imm rd s
  | .andWReg rs rd => Sys2Proof.Machine.execAndWReg rs rd s
  | .andLImm imm erd => Sys2Proof.Machine.execAndLImm imm erd s
  | .andLReg ers erd => Sys2Proof.Machine.execAndLReg ers erd s
  | .orBImm imm rd => Sys2Proof.Machine.execOrBImm imm rd s
  | .orBReg rs rd => Sys2Proof.Machine.execOrBReg rs rd s
  | .orWImm imm rd => Sys2Proof.Machine.execOrWImm imm rd s
  | .orWReg rs rd => Sys2Proof.Machine.execOrWReg rs rd s
  | .orLImm imm erd => Sys2Proof.Machine.execOrLImm imm erd s
  | .orLReg ers erd => Sys2Proof.Machine.execOrLReg ers erd s
  | .xorBImm imm rd => Sys2Proof.Machine.execXorBImm imm rd s
  | .xorBReg rs rd => Sys2Proof.Machine.execXorBReg rs rd s
  | .xorWImm imm rd => Sys2Proof.Machine.execXorWImm imm rd s
  | .xorWReg rs rd => Sys2Proof.Machine.execXorWReg rs rd s
  | .xorLImm imm erd => Sys2Proof.Machine.execXorLImm imm erd s
  | .xorLReg ers erd => Sys2Proof.Machine.execXorLReg ers erd s
  | .notB rd => Sys2Proof.Machine.execNotB rd s
  | .notW rd => Sys2Proof.Machine.execNotW rd s
  | .notL erd => Sys2Proof.Machine.execNotL erd s
  | .shalB rd => Sys2Proof.Machine.execShalB rd s
  | .shalW rd => Sys2Proof.Machine.execShalW rd s
  | .shalL erd => Sys2Proof.Machine.execShalL erd s
  | .sharB rd => Sys2Proof.Machine.execSharB rd s
  | .sharW rd => Sys2Proof.Machine.execSharW rd s
  | .sharL erd => Sys2Proof.Machine.execSharL erd s
  | .shllB rd => Sys2Proof.Machine.execShllB rd s
  | .shllW rd => Sys2Proof.Machine.execShllW rd s
  | .shllL erd => Sys2Proof.Machine.execShllL erd s
  | .shlrB rd => Sys2Proof.Machine.execShlrB rd s
  | .shlrW rd => Sys2Proof.Machine.execShlrW rd s
  | .shlrL erd => Sys2Proof.Machine.execShlrL erd s
  | .rotlB rd => Sys2Proof.Machine.execRotlB rd s
  | .rotlW rd => Sys2Proof.Machine.execRotlW rd s
  | .rotlL erd => Sys2Proof.Machine.execRotlL erd s
  | .rotrB rd => Sys2Proof.Machine.execRotrB rd s
  | .rotrW rd => Sys2Proof.Machine.execRotrW rd s
  | .rotrL erd => Sys2Proof.Machine.execRotrL erd s
  | .rotxlB rd => Sys2Proof.Machine.execRotxlB rd s
  | .rotxlW rd => Sys2Proof.Machine.execRotxlW rd s
  | .rotxlL erd => Sys2Proof.Machine.execRotxlL erd s
  | .rotxrB rd => Sys2Proof.Machine.execRotxrB rd s
  | .rotxrW rd => Sys2Proof.Machine.execRotxrW rd s
  | .rotxrL erd => Sys2Proof.Machine.execRotxrL erd s
  | .bsetImmReg imm rd => Sys2Proof.Machine.execBsetImmReg imm rd s
  | .bsetImmInd imm erd => Sys2Proof.Machine.execBsetImmInd imm erd s
  | .bsetImmAbs8 imm abs => Sys2Proof.Machine.execBsetImmAbs8 imm abs s
  | .bsetRegReg rn rd => Sys2Proof.Machine.execBsetRegReg rn rd s
  | .bsetRegInd rn erd => Sys2Proof.Machine.execBsetRegInd rn erd s
  | .bsetRegAbs8 rn abs => Sys2Proof.Machine.execBsetRegAbs8 rn abs s
  | .bclrImmReg imm rd => Sys2Proof.Machine.execBclrImmReg imm rd s
  | .bclrImmInd imm erd => Sys2Proof.Machine.execBclrImmInd imm erd s
  | .bclrImmAbs8 imm abs => Sys2Proof.Machine.execBclrImmAbs8 imm abs s
  | .bclrRegReg rn rd => Sys2Proof.Machine.execBclrRegReg rn rd s
  | .bclrRegInd rn erd => Sys2Proof.Machine.execBclrRegInd rn erd s
  | .bclrRegAbs8 rn abs => Sys2Proof.Machine.execBclrRegAbs8 rn abs s
  | .bnotImmReg imm rd => Sys2Proof.Machine.execBnotImmReg imm rd s
  | .bnotImmInd imm erd => Sys2Proof.Machine.execBnotImmInd imm erd s
  | .bnotImmAbs8 imm abs => Sys2Proof.Machine.execBnotImmAbs8 imm abs s
  | .bnotRegReg rn rd => Sys2Proof.Machine.execBnotRegReg rn rd s
  | .bnotRegInd rn erd => Sys2Proof.Machine.execBnotRegInd rn erd s
  | .bnotRegAbs8 rn abs => Sys2Proof.Machine.execBnotRegAbs8 rn abs s
  | .btstImmReg imm rd => Sys2Proof.Machine.execBtstImmReg imm rd s
  | .btstImmInd imm erd => Sys2Proof.Machine.execBtstImmInd imm erd s
  | .btstImmAbs8 imm abs => Sys2Proof.Machine.execBtstImmAbs8 imm abs s
  | .btstRegReg rn rd => Sys2Proof.Machine.execBtstRegReg rn rd s
  | .btstRegInd rn erd => Sys2Proof.Machine.execBtstRegInd rn erd s
  | .btstRegAbs8 rn abs => Sys2Proof.Machine.execBtstRegAbs8 rn abs s
  | .bandImmReg imm rd => Sys2Proof.Machine.execBandImmReg imm rd s
  | .bandImmInd imm erd => Sys2Proof.Machine.execBandImmInd imm erd s
  | .bandImmAbs8 imm abs => Sys2Proof.Machine.execBandImmAbs8 imm abs s
  | .biandImmReg imm rd => Sys2Proof.Machine.execBiandImmReg imm rd s
  | .biandImmInd imm erd => Sys2Proof.Machine.execBiandImmInd imm erd s
  | .biandImmAbs8 imm abs => Sys2Proof.Machine.execBiandImmAbs8 imm abs s
  | .borImmReg imm rd => Sys2Proof.Machine.execBorImmReg imm rd s
  | .borImmInd imm erd => Sys2Proof.Machine.execBorImmInd imm erd s
  | .borImmAbs8 imm abs => Sys2Proof.Machine.execBorImmAbs8 imm abs s
  | .biorImmReg imm rd => Sys2Proof.Machine.execBiorImmReg imm rd s
  | .biorImmInd imm erd => Sys2Proof.Machine.execBiorImmInd imm erd s
  | .biorImmAbs8 imm abs => Sys2Proof.Machine.execBiorImmAbs8 imm abs s
  | .bxorImmReg imm rd => Sys2Proof.Machine.execBxorImmReg imm rd s
  | .bxorImmInd imm erd => Sys2Proof.Machine.execBxorImmInd imm erd s
  | .bxorImmAbs8 imm abs => Sys2Proof.Machine.execBxorImmAbs8 imm abs s
  | .bixorImmReg imm rd => Sys2Proof.Machine.execBixorImmReg imm rd s
  | .bixorImmInd imm erd => Sys2Proof.Machine.execBixorImmInd imm erd s
  | .bixorImmAbs8 imm abs => Sys2Proof.Machine.execBixorImmAbs8 imm abs s
  | .bldImmReg imm rd => Sys2Proof.Machine.execBldImmReg imm rd s
  | .bldImmInd imm erd => Sys2Proof.Machine.execBldImmInd imm erd s
  | .bldImmAbs8 imm abs => Sys2Proof.Machine.execBldImmAbs8 imm abs s
  | .bildImmReg imm rd => Sys2Proof.Machine.execBildImmReg imm rd s
  | .bildImmInd imm erd => Sys2Proof.Machine.execBildImmInd imm erd s
  | .bildImmAbs8 imm abs => Sys2Proof.Machine.execBildImmAbs8 imm abs s
  | .bstImmReg imm rd => Sys2Proof.Machine.execBstImmReg imm rd s
  | .bstImmInd imm erd => Sys2Proof.Machine.execBstImmInd imm erd s
  | .bstImmAbs8 imm abs => Sys2Proof.Machine.execBstImmAbs8 imm abs s
  | .bistImmReg imm rd => Sys2Proof.Machine.execBistImmReg imm rd s
  | .bistImmInd imm erd => Sys2Proof.Machine.execBistImmInd imm erd s
  | .bistImmAbs8 imm abs => Sys2Proof.Machine.execBistImmAbs8 imm abs s
  | .braD8 disp => Sys2Proof.Machine.execBraD8 disp s
  | .brnD8 disp => Sys2Proof.Machine.execBrnD8 disp s
  | .bhiD8 disp => Sys2Proof.Machine.execBhiD8 disp s
  | .blsD8 disp => Sys2Proof.Machine.execBlsD8 disp s
  | .bccD8 disp => Sys2Proof.Machine.execBccD8 disp s
  | .bcsD8 disp => Sys2Proof.Machine.execBcsD8 disp s
  | .bneD8 disp => Sys2Proof.Machine.execBneD8 disp s
  | .beqD8 disp => Sys2Proof.Machine.execBeqD8 disp s
  | .bvcD8 disp => Sys2Proof.Machine.execBvcD8 disp s
  | .bvsD8 disp => Sys2Proof.Machine.execBvsD8 disp s
  | .bplD8 disp => Sys2Proof.Machine.execBplD8 disp s
  | .bmiD8 disp => Sys2Proof.Machine.execBmiD8 disp s
  | .bgeD8 disp => Sys2Proof.Machine.execBgeD8 disp s
  | .bltD8 disp => Sys2Proof.Machine.execBltD8 disp s
  | .bgtD8 disp => Sys2Proof.Machine.execBgtD8 disp s
  | .bleD8 disp => Sys2Proof.Machine.execBleD8 disp s
  | .braD16 disp => Sys2Proof.Machine.execBraD16 disp s
  | .brnD16 disp => Sys2Proof.Machine.execBrnD16 disp s
  | .bhiD16 disp => Sys2Proof.Machine.execBhiD16 disp s
  | .blsD16 disp => Sys2Proof.Machine.execBlsD16 disp s
  | .bccD16 disp => Sys2Proof.Machine.execBccD16 disp s
  | .bcsD16 disp => Sys2Proof.Machine.execBcsD16 disp s
  | .bneD16 disp => Sys2Proof.Machine.execBneD16 disp s
  | .beqD16 disp => Sys2Proof.Machine.execBeqD16 disp s
  | .bvcD16 disp => Sys2Proof.Machine.execBvcD16 disp s
  | .bvsD16 disp => Sys2Proof.Machine.execBvsD16 disp s
  | .bplD16 disp => Sys2Proof.Machine.execBplD16 disp s
  | .bmiD16 disp => Sys2Proof.Machine.execBmiD16 disp s
  | .bgeD16 disp => Sys2Proof.Machine.execBgeD16 disp s
  | .bltD16 disp => Sys2Proof.Machine.execBltD16 disp s
  | .bgtD16 disp => Sys2Proof.Machine.execBgtD16 disp s
  | .bleD16 disp => Sys2Proof.Machine.execBleD16 disp s
  | .bsrD8 disp => Sys2Proof.Machine.execBsrD8 disp s
  | .bsrD16 disp => Sys2Proof.Machine.execBsrD16 disp s
  | .jmpInd ern => Sys2Proof.Machine.execJmpInd ern s
  | .jmpAbs24 abs => Sys2Proof.Machine.execJmpAbs24 abs s
  | .jmpMemInd abs => Sys2Proof.Machine.execJmpMemInd abs s
  | .jsrInd ern => Sys2Proof.Machine.execJsrInd ern s
  | .jsrAbs24 abs => Sys2Proof.Machine.execJsrAbs24 abs s
  | .jsrMemInd abs => Sys2Proof.Machine.execJsrMemInd abs s
  | .rts => Sys2Proof.Machine.execRts s
  | .trapa imm => Sys2Proof.Machine.execTrapa imm s
  | .rte => Sys2Proof.Machine.execRte s
  | .sleep => Sys2Proof.Machine.execSleep s
  | .ldcBImm imm => Sys2Proof.Machine.execLdcBImm imm s
  | .ldcBReg rs => Sys2Proof.Machine.execLdcBReg rs s
  | .ldcWLoadInd ers => Sys2Proof.Machine.execLdcWLoadInd ers s
  | .ldcWLoadDisp16 disp ers => Sys2Proof.Machine.execLdcWLoadDisp16 disp ers s
  | .ldcWLoadDisp24 disp ers => Sys2Proof.Machine.execLdcWLoadDisp24 disp ers s
  | .ldcWLoadPostInc ers => Sys2Proof.Machine.execLdcWLoadPostInc ers s
  | .ldcWLoadAbs16 abs => Sys2Proof.Machine.execLdcWLoadAbs16 abs s
  | .ldcWLoadAbs24 abs => Sys2Proof.Machine.execLdcWLoadAbs24 abs s
  | .stcBReg rd => Sys2Proof.Machine.execStcBReg rd s
  | .stcWStoreInd erd => Sys2Proof.Machine.execStcWStoreInd erd s
  | .stcWStoreDisp16 disp erd => Sys2Proof.Machine.execStcWStoreDisp16 disp erd s
  | .stcWStoreDisp24 disp erd => Sys2Proof.Machine.execStcWStoreDisp24 disp erd s
  | .stcWStorePreDec erd => Sys2Proof.Machine.execStcWStorePreDec erd s
  | .stcWStoreAbs16 abs => Sys2Proof.Machine.execStcWStoreAbs16 abs s
  | .stcWStoreAbs24 abs => Sys2Proof.Machine.execStcWStoreAbs24 abs s
  | .andc imm => Sys2Proof.Machine.execAndc imm s
  | .orc imm => Sys2Proof.Machine.execOrc imm s
  | .xorc imm => Sys2Proof.Machine.execXorc imm s
  | .nop => Sys2Proof.Machine.execNop s
  | .eepmovB => Sys2Proof.Machine.execEepmovB s
  | .eepmovW => Sys2Proof.Machine.execEepmovW s

end Sys2Proof.Machine
end

