-- ==== Sys2Proof/WellFormed.lean ====
section
/-! DEFINITION. Which terms of `Instr` are written as the decoder answers them.
Every operand has exactly the width of its field, so the only checks left are the four rows that share their words with
PUSH and POP (R119 `alias_of`; R217, R218, R220, R221): with address register 7 those words are PUSH and POP. -/

namespace Sys2Proof

/-- The `@-ERd` and `@ERs+` forms of MOV.W and MOV.L with register 7 are spelled PUSH and POP (R194, R198, R209, R212;
log 33); every other term is well formed. -/
def Instr.wellFormed : Instr → Bool
  | .movWLoadPostInc ers _ => ers != 7#3
  | .movWStorePreDec _ erd => erd != 7#3
  | .movLLoadPostInc ers _ => ers != 7#3
  | .movLStorePreDec _ erd => erd != 7#3
  | _ => true

end Sys2Proof
end

