-- ==== Sys2Proof/Decode.lean ====
section
/-! DEFINITION. Decoding and encoding (30_encoding.md).
A word is read as four nibbles (R100: the operation field starts with the first 4 bits), decoding follows the
operation code map R110, R111, R112 and the procedure R113, and every fixed bit must hold its printed value (R108, D22).
Encoding follows the format of each row (R104, R105, R107). Decoding an instruction never looks past its last word. -/

namespace Sys2Proof

/-! ### Nibbles, bytes and words -/

/-- A word as its four nibbles, `a` the most significant (R100, R102). -/
structure Quad where
  /-- bits 15..12 -/
  a : BitVec 4
  /-- bits 11..8 -/
  b : BitVec 4
  /-- bits 7..4 -/
  c : BitVec 4
  /-- bits 3..0 -/
  d : BitVec 4
  deriving DecidableEq, Repr

/-- The nibbles of a word. -/
def Quad.ofWord (w : Word) : Quad :=
  ⟨w.extractLsb' 12 4, w.extractLsb' 8 4, w.extractLsb' 4 4, w.extractLsb' 0 4⟩

/-- The word of four nibbles. -/
def Quad.toWord (q : Quad) : Word := q.a ++ q.b ++ q.c ++ q.d

/-- The second byte of a word: an 8-bit extension stands there (R104). -/
def Quad.lowByte (q : Quad) : Byte := q.c ++ q.d

/-- Upper nibble of a byte. -/
def nibHi (x : Byte) : BitVec 4 := x.extractLsb' 4 4

/-- Lower nibble of a byte. -/
def nibLo (x : Byte) : BitVec 4 := x.extractLsb' 0 4

/-- The top byte of a 24-bit value. -/
def addrTop (x : Addr) : Byte := x.extractLsb' 16 8

/-- The low word of a 24-bit value. -/
def addrLow (x : Addr) : Word := x.extractLsb' 0 16

/-- A 24-bit value from its top byte and its low word, big-endian (R104). -/
def addrOf (top : Byte) (low : Word) : Addr := top ++ low

/-- The high word of a longword. -/
def longHigh (x : Long) : Word := x.extractLsb' 16 16

/-- The low word of a longword. -/
def longLow (x : Long) : Word := x.extractLsb' 0 16

/-- A longword from two words, the first one high (R60, R104). -/
def longOf (high low : Word) : Long := high ++ low

/-! ### Fields inside a nibble -/

/-- A 3-bit field under a fixed top bit 0: `0erd`, `0ers`, `0imm3` (R102). -/
def nib0 (n : BitVec 3) : BitVec 4 := 0#1 ++ n

/-- A 3-bit field under a fixed top bit 1: `1erd`, `1ers`, `1imm3` (R102). -/
def nib1 (n : BitVec 3) : BitVec 4 := 1#1 ++ n

/-- The top bit of a nibble. -/
def nibTop (x : BitVec 4) : Bool := x.getLsbD 3

/-- The low three bits of a nibble. -/
def nibField (x : BitVec 4) : BitVec 3 := x.extractLsb' 0 3

/-- The 2-bit vector number of TRAPA in bits 5..4 of the second byte, bits 7..6 being 0 (R105). -/
def nibTrap (x : BitVec 2) : BitVec 4 := 0#2 ++ x

/-- The field of an 8-bit register: top bit 0 is RnH, 1 is RnL (R23). -/
def Reg8.nib : Reg8 → BitVec 4
  | .h n => nib0 n
  | .l n => nib1 n

/-- The 8-bit register of a field (R23). -/
def Reg8.ofNib (x : BitVec 4) : Reg8 := if nibTop x then .l (nibField x) else .h (nibField x)

/-- The field of a 16-bit register: top bit 0 is Rn, 1 is En (R23). -/
def Reg16.nib : Reg16 → BitVec 4
  | .r n => nib0 n
  | .e n => nib1 n

/-- The 16-bit register of a field (R23). -/
def Reg16.ofNib (x : BitVec 4) : Reg16 := if nibTop x then .e (nibField x) else .r (nibField x)

/-! ### Decoding

The section is marked noncomputable only because Lean's compiled runtime has no tags for more than 244 constructors;
every definition is a plain one that the kernel evaluates. -/

noncomputable section

/-- What the decoder answers. -/
inductive DecodeResult where
  /-- A defined code. -/
  | instr (i : Instr)
  /-- The words given are the beginning of a longer code: another word must be fetched (R113). -/
  | incomplete
  /-- A code that the operation code map does not define (R114). -/
  | undefinedCode
  deriving DecidableEq, Repr

/-- A nibble that must be `0ern`: the instruction of its field, or an undefined code when bit 3 is 1 (D22). -/
def withER (x : BitVec 4) (f : ERn → Instr) : DecodeResult :=
  if nibTop x then .undefinedCode else .instr (f (nibField x))

/-- A nibble that must be 0 (R108, D22). -/
def withZero (x : BitVec 4) (k : DecodeResult) : DecodeResult :=
  if x = 0#4 then k else .undefinedCode

/-- The next word of the code. -/
def withWord (ws : List Quad) (k : Quad → List Quad → DecodeResult) : DecodeResult :=
  match ws with
  | [] => .incomplete
  | q :: rest => k q rest

/-- A 16-bit extension: the whole next word (R104). -/
def withExt16 (ws : List Quad) (f : Word → DecodeResult) : DecodeResult :=
  withWord ws fun q _ => f q.toWord

/-- A 32-bit extension: the next two words (R104). -/
def withExt32 (ws : List Quad) (f : Long → DecodeResult) : DecodeResult :=
  withWord ws fun q rest => withWord rest fun q' _ => f (longOf q.toWord q'.toWord)

/-- A 24-bit extension stored as `00` and three bytes (R104). -/
def withExt24 (ws : List Quad) (f : Addr → DecodeResult) : DecodeResult :=
  withWord ws fun q rest =>
    withZero q.a <| withZero q.b <| withWord rest fun q' _ => f (addrOf q.lowByte q'.toWord)

/-- Bit instructions on a register, first bytes 60..63, 67, 70..77 (R361, R383). `b` is the low nibble of the first
byte, `c` the bit-number nibble, `d` the register. -/
def decodeBit6Reg (b : BitVec 4) (c d : BitVec 4) : DecodeResult :=
  match b.toNat with
  | 0x0 => .instr (.bsetRegReg (.ofNib c) (.ofNib d))
  | 0x1 => .instr (.bnotRegReg (.ofNib c) (.ofNib d))
  | 0x2 => .instr (.bclrRegReg (.ofNib c) (.ofNib d))
  | 0x3 => .instr (.btstRegReg (.ofNib c) (.ofNib d))
  | 0x7 => .instr (if nibTop c then .bistImmReg (nibField c) (.ofNib d) else .bstImmReg (nibField c) (.ofNib d))
  | _ => .undefinedCode

/-- Bit instructions on a register with an immediate bit number, first bytes 70..77 (R361, R383). -/
def decodeBit7Reg (b : BitVec 4) (c d : BitVec 4) : DecodeResult :=
  match b.toNat with
  | 0x0 => withER c fun n => .bsetImmReg n (.ofNib d)
  | 0x1 => withER c fun n => .bnotImmReg n (.ofNib d)
  | 0x2 => withER c fun n => .bclrImmReg n (.ofNib d)
  | 0x3 => withER c fun n => .btstImmReg n (.ofNib d)
  | 0x4 => .instr (if nibTop c then .biorImmReg (nibField c) (.ofNib d) else .borImmReg (nibField c) (.ofNib d))
  | 0x5 => .instr (if nibTop c then .bixorImmReg (nibField c) (.ofNib d) else .bxorImmReg (nibField c) (.ofNib d))
  | 0x6 => .instr (if nibTop c then .biandImmReg (nibField c) (.ofNib d) else .bandImmReg (nibField c) (.ofNib d))
  | 0x7 => .instr (if nibTop c then .bildImmReg (nibField c) (.ofNib d) else .bldImmReg (nibField c) (.ofNib d))
  | _ => .undefinedCode

/-- Second word after `7C r0`: the read-type bit instructions on @ERd (R112, R360). -/
def decode7C (r : ERn) (q : Quad) : DecodeResult :=
  withZero q.d <|
  match q.a.toNat, q.b.toNat with
  | 0x6, 0x3 => .instr (.btstRegInd (.ofNib q.c) r)
  | 0x7, 0x3 => withER q.c fun n => .btstImmInd n r
  | 0x7, 0x4 => .instr (if nibTop q.c then .biorImmInd (nibField q.c) r else .borImmInd (nibField q.c) r)
  | 0x7, 0x5 => .instr (if nibTop q.c then .bixorImmInd (nibField q.c) r else .bxorImmInd (nibField q.c) r)
  | 0x7, 0x6 => .instr (if nibTop q.c then .biandImmInd (nibField q.c) r else .bandImmInd (nibField q.c) r)
  | 0x7, 0x7 => .instr (if nibTop q.c then .bildImmInd (nibField q.c) r else .bldImmInd (nibField q.c) r)
  | _, _ => .undefinedCode

/-- Second word after `7D r0`: the write-type bit instructions on @ERd (R112, R360). -/
def decode7D (r : ERn) (q : Quad) : DecodeResult :=
  withZero q.d <|
  match q.a.toNat, q.b.toNat with
  | 0x6, 0x0 => .instr (.bsetRegInd (.ofNib q.c) r)
  | 0x6, 0x1 => .instr (.bnotRegInd (.ofNib q.c) r)
  | 0x6, 0x2 => .instr (.bclrRegInd (.ofNib q.c) r)
  | 0x6, 0x7 => .instr (if nibTop q.c then .bistImmInd (nibField q.c) r else .bstImmInd (nibField q.c) r)
  | 0x7, 0x0 => withER q.c fun n => .bsetImmInd n r
  | 0x7, 0x1 => withER q.c fun n => .bnotImmInd n r
  | 0x7, 0x2 => withER q.c fun n => .bclrImmInd n r
  | _, _ => .undefinedCode

/-- Second word after `7E aa`: the read-type bit instructions on @aa:8 (R112, R360). -/
def decode7E (aa : Byte) (q : Quad) : DecodeResult :=
  withZero q.d <|
  match q.a.toNat, q.b.toNat with
  | 0x6, 0x3 => .instr (.btstRegAbs8 (.ofNib q.c) aa)
  | 0x7, 0x3 => withER q.c fun n => .btstImmAbs8 n aa
  | 0x7, 0x4 => .instr (if nibTop q.c then .biorImmAbs8 (nibField q.c) aa else .borImmAbs8 (nibField q.c) aa)
  | 0x7, 0x5 => .instr (if nibTop q.c then .bixorImmAbs8 (nibField q.c) aa else .bxorImmAbs8 (nibField q.c) aa)
  | 0x7, 0x6 => .instr (if nibTop q.c then .biandImmAbs8 (nibField q.c) aa else .bandImmAbs8 (nibField q.c) aa)
  | 0x7, 0x7 => .instr (if nibTop q.c then .bildImmAbs8 (nibField q.c) aa else .bldImmAbs8 (nibField q.c) aa)
  | _, _ => .undefinedCode

/-- Second word after `7F aa`: the write-type bit instructions on @aa:8 (R112, R360). -/
def decode7F (aa : Byte) (q : Quad) : DecodeResult :=
  withZero q.d <|
  match q.a.toNat, q.b.toNat with
  | 0x6, 0x0 => .instr (.bsetRegAbs8 (.ofNib q.c) aa)
  | 0x6, 0x1 => .instr (.bnotRegAbs8 (.ofNib q.c) aa)
  | 0x6, 0x2 => .instr (.bclrRegAbs8 (.ofNib q.c) aa)
  | 0x6, 0x7 => .instr (if nibTop q.c then .bistImmAbs8 (nibField q.c) aa else .bstImmAbs8 (nibField q.c) aa)
  | 0x7, 0x0 => withER q.c fun n => .bsetImmAbs8 n aa
  | 0x7, 0x1 => withER q.c fun n => .bnotImmAbs8 n aa
  | 0x7, 0x2 => withER q.c fun n => .bclrImmAbs8 n aa
  | _, _ => .undefinedCode

/-- Second word after `78 0ern 0`: MOV.B and MOV.W with a 24-bit displacement (R107, R177, R185, R193, R200). -/
def decode78 (r : ERn) (q : Quad) (rest : List Quad) : DecodeResult :=
  match q.a.toNat, q.b.toNat, q.c.toNat with
  | 0x6, 0xA, 0x2 => withExt24 rest fun disp => .instr (.movBLoadDisp24 disp r (.ofNib q.d))
  | 0x6, 0xA, 0xA => withExt24 rest fun disp => .instr (.movBStoreDisp24 (.ofNib q.d) disp r)
  | 0x6, 0xB, 0x2 => withExt24 rest fun disp => .instr (.movWLoadDisp24 disp r (.ofNib q.d))
  | 0x6, 0xB, 0xA => withExt24 rest fun disp => .instr (.movWStoreDisp24 (.ofNib q.d) disp r)
  | _, _, _ => .undefinedCode

/-- The body after the word `0100`: MOV.L between memory and a register, with PUSH.L and POP.L (R107, R203 to R221). -/
def decode0100 (q : Quad) (rest : List Quad) : DecodeResult :=
  match q.a.toNat, q.b.toNat with
  | 0x6, 0x9 =>
      if nibTop q.c then withER q.d fun n => .movLStoreInd n (nibField q.c)
      else withER q.d fun n => .movLLoadInd (nibField q.c) n
  | 0x6, 0xB =>
      match q.c.toNat with
      | 0x0 => if nibTop q.d then .undefinedCode else
          withExt16 rest fun x => .instr (.movLLoadAbs16 x (nibField q.d))
      | 0x2 => if nibTop q.d then .undefinedCode else
          withExt24 rest fun x => .instr (.movLLoadAbs24 x (nibField q.d))
      | 0x8 => if nibTop q.d then .undefinedCode else
          withExt16 rest fun x => .instr (.movLStoreAbs16 (nibField q.d) x)
      | 0xA => if nibTop q.d then .undefinedCode else
          withExt24 rest fun x => .instr (.movLStoreAbs24 (nibField q.d) x)
      | _ => .undefinedCode
  | 0x6, 0xD =>
      if q.c = 0x7#4 then withER q.d fun n => .popL n
      else if q.c = 0xF#4 then withER q.d fun n => .pushL n
      else if nibTop q.c then withER q.d fun n => .movLStorePreDec n (nibField q.c)
      else withER q.d fun n => .movLLoadPostInc (nibField q.c) n
  | 0x6, 0xF =>
      if nibTop q.d then .undefinedCode else withExt16 rest fun x =>
        .instr (if nibTop q.c then .movLStoreDisp16 (nibField q.d) x (nibField q.c)
                else .movLLoadDisp16 x (nibField q.c) (nibField q.d))
  | 0x7, 0x8 =>
      if nibTop q.c then .undefinedCode else withZero q.d <| withWord rest fun q' rest' =>
        match q'.a.toNat, q'.b.toNat, q'.c.toNat with
        | 0x6, 0xB, 0x2 => if nibTop q'.d then .undefinedCode else
            withExt24 rest' fun x => .instr (.movLLoadDisp24 x (nibField q.c) (nibField q'.d))
        | 0x6, 0xB, 0xA => if nibTop q'.d then .undefinedCode else
            withExt24 rest' fun x => .instr (.movLStoreDisp24 (nibField q'.d) x (nibField q.c))
        | _, _, _ => .undefinedCode
  | _, _ => .undefinedCode

/-- The body after the word `0140`: LDC.W and STC.W, the data-register nibble being 0 (R107, R437 to R451). -/
def decode0140 (q : Quad) (rest : List Quad) : DecodeResult :=
  match q.a.toNat, q.b.toNat with
  | 0x6, 0x9 => withZero q.d <|
      .instr (if nibTop q.c then .stcWStoreInd (nibField q.c) else .ldcWLoadInd (nibField q.c))
  | 0x6, 0xB => withZero q.d <|
      match q.c.toNat with
      | 0x0 => withExt16 rest fun x => .instr (.ldcWLoadAbs16 x)
      | 0x2 => withExt24 rest fun x => .instr (.ldcWLoadAbs24 x)
      | 0x8 => withExt16 rest fun x => .instr (.stcWStoreAbs16 x)
      | 0xA => withExt24 rest fun x => .instr (.stcWStoreAbs24 x)
      | _ => .undefinedCode
  | 0x6, 0xD => withZero q.d <|
      .instr (if nibTop q.c then .stcWStorePreDec (nibField q.c) else .ldcWLoadPostInc (nibField q.c))
  | 0x6, 0xF => withZero q.d <| withExt16 rest fun x =>
      .instr (if nibTop q.c then .stcWStoreDisp16 x (nibField q.c) else .ldcWLoadDisp16 x (nibField q.c))
  | 0x7, 0x8 =>
      if nibTop q.c then .undefinedCode else withZero q.d <| withWord rest fun q' rest' =>
        match q'.a.toNat, q'.b.toNat, q'.c.toNat with
        | 0x6, 0xB, 0x2 => withZero q'.d <|
            withExt24 rest' fun x => .instr (.ldcWLoadDisp24 x (nibField q.c))
        | 0x6, 0xB, 0xA => withZero q'.d <|
            withExt24 rest' fun x => .instr (.stcWStoreDisp24 x (nibField q.c))
        | _, _, _ => .undefinedCode
  | _, _ => .undefinedCode

/-- The body after `01C0`: MULXS (R107, R270, R271). -/
def decode01C0 (q : Quad) : DecodeResult :=
  match q.a.toNat, q.b.toNat with
  | 0x5, 0x0 => .instr (.mulxsBReg (.ofNib q.c) (.ofNib q.d))
  | 0x5, 0x2 => withER q.d fun n => .mulxsWReg (.ofNib q.c) n
  | _, _ => .undefinedCode

/-- The body after `01D0`: DIVXS (R107, R255, R256). -/
def decode01D0 (q : Quad) : DecodeResult :=
  match q.a.toNat, q.b.toNat with
  | 0x5, 0x1 => .instr (.divxsBReg (.ofNib q.c) (.ofNib q.d))
  | 0x5, 0x3 => withER q.d fun n => .divxsWReg (.ofNib q.c) n
  | _, _ => .undefinedCode

/-- The body after `01F0`: OR.L, XOR.L, AND.L between registers (R107, R306, R312, R318). -/
def decode01F0 (q : Quad) : DecodeResult :=
  if nibTop q.c then .undefinedCode else
  match q.a.toNat, q.b.toNat with
  | 0x6, 0x4 => withER q.d fun n => .orLReg (nibField q.c) n
  | 0x6, 0x5 => withER q.d fun n => .xorLReg (nibField q.c) n
  | 0x6, 0x6 => withER q.d fun n => .andLReg (nibField q.c) n
  | _, _ => .undefinedCode

/-- First byte 01 (R111). -/
def decode01 (q : Quad) (rest : List Quad) : DecodeResult :=
  withZero q.d <|
  match q.c.toNat with
  | 0x0 => withWord rest decode0100
  | 0x4 => withWord rest decode0140
  | 0x8 => .instr .sleep
  | 0xC => withWord rest fun q' _ => decode01C0 q'
  | 0xD => withWord rest fun q' _ => decode01D0 q'
  | 0xF => withWord rest fun q' _ => decode01F0 q'
  | _ => .undefinedCode

/-- First byte 0B (R111). -/
def decode0B (q : Quad) : DecodeResult :=
  match q.c.toNat with
  | 0x0 => withER q.d .adds1
  | 0x5 => .instr (.incW1 (.ofNib q.d))
  | 0x7 => withER q.d .incL1
  | 0x8 => withER q.d .adds2
  | 0x9 => withER q.d .adds4
  | 0xD => .instr (.incW2 (.ofNib q.d))
  | 0xF => withER q.d .incL2
  | _ => .undefinedCode

/-- First byte 1B (R111, C10). -/
def decode1B (q : Quad) : DecodeResult :=
  match q.c.toNat with
  | 0x0 => withER q.d .subs1
  | 0x5 => .instr (.decW1 (.ofNib q.d))
  | 0x7 => withER q.d .decL1
  | 0x8 => withER q.d .subs2
  | 0x9 => withER q.d .subs4
  | 0xD => .instr (.decW2 (.ofNib q.d))
  | 0xF => withER q.d .decL2
  | _ => .undefinedCode

/-- First byte 10: shifts left (R111, R347). -/
def decode10 (q : Quad) : DecodeResult :=
  match q.c.toNat with
  | 0x0 => .instr (.shllB (.ofNib q.d))
  | 0x1 => .instr (.shllW (.ofNib q.d))
  | 0x3 => withER q.d .shllL
  | 0x8 => .instr (.shalB (.ofNib q.d))
  | 0x9 => .instr (.shalW (.ofNib q.d))
  | 0xB => withER q.d .shalL
  | _ => .undefinedCode

/-- First byte 11: shifts right (R111, R347). -/
def decode11 (q : Quad) : DecodeResult :=
  match q.c.toNat with
  | 0x0 => .instr (.shlrB (.ofNib q.d))
  | 0x1 => .instr (.shlrW (.ofNib q.d))
  | 0x3 => withER q.d .shlrL
  | 0x8 => .instr (.sharB (.ofNib q.d))
  | 0x9 => .instr (.sharW (.ofNib q.d))
  | 0xB => withER q.d .sharL
  | _ => .undefinedCode

/-- First byte 12: rotates left (R111, R347). -/
def decode12 (q : Quad) : DecodeResult :=
  match q.c.toNat with
  | 0x0 => .instr (.rotxlB (.ofNib q.d))
  | 0x1 => .instr (.rotxlW (.ofNib q.d))
  | 0x3 => withER q.d .rotxlL
  | 0x8 => .instr (.rotlB (.ofNib q.d))
  | 0x9 => .instr (.rotlW (.ofNib q.d))
  | 0xB => withER q.d .rotlL
  | _ => .undefinedCode

/-- First byte 13: rotates right (R111, R347). -/
def decode13 (q : Quad) : DecodeResult :=
  match q.c.toNat with
  | 0x0 => .instr (.rotxrB (.ofNib q.d))
  | 0x1 => .instr (.rotxrW (.ofNib q.d))
  | 0x3 => withER q.d .rotxrL
  | 0x8 => .instr (.rotrB (.ofNib q.d))
  | 0x9 => .instr (.rotrW (.ofNib q.d))
  | 0xB => withER q.d .rotrL
  | _ => .undefinedCode

/-- First byte 17: NOT, EXTU, NEG, EXTS (R111, R347). -/
def decode17 (q : Quad) : DecodeResult :=
  match q.c.toNat with
  | 0x0 => .instr (.notB (.ofNib q.d))
  | 0x1 => .instr (.notW (.ofNib q.d))
  | 0x3 => withER q.d .notL
  | 0x5 => .instr (.extuW (.ofNib q.d))
  | 0x7 => withER q.d .extuL
  | 0x8 => .instr (.negB (.ofNib q.d))
  | 0x9 => .instr (.negW (.ofNib q.d))
  | 0xB => withER q.d .negL
  | 0xD => .instr (.extsW (.ofNib q.d))
  | 0xF => withER q.d .extsL
  | _ => .undefinedCode

/-- First bytes 00 to 0F (R110, R111). -/
def decode0 (q : Quad) (rest : List Quad) : DecodeResult :=
  match q.b.toNat with
  | 0x0 => withZero q.c <| withZero q.d <| .instr .nop
  | 0x1 => decode01 q rest
  | 0x2 => withZero q.c <| .instr (.stcBReg (.ofNib q.d))
  | 0x3 => withZero q.c <| .instr (.ldcBReg (.ofNib q.d))
  | 0x4 => .instr (.orc q.lowByte)
  | 0x5 => .instr (.xorc q.lowByte)
  | 0x6 => .instr (.andc q.lowByte)
  | 0x7 => .instr (.ldcBImm q.lowByte)
  | 0x8 => .instr (.addBReg (.ofNib q.c) (.ofNib q.d))
  | 0x9 => .instr (.addWReg (.ofNib q.c) (.ofNib q.d))
  | 0xA => if nibTop q.c then withER q.d fun n => .addLReg (nibField q.c) n
           else withZero q.c <| .instr (.incB (.ofNib q.d))
  | 0xB => decode0B q
  | 0xC => .instr (.movBReg (.ofNib q.c) (.ofNib q.d))
  | 0xD => .instr (.movWReg (.ofNib q.c) (.ofNib q.d))
  | 0xE => .instr (.addxReg (.ofNib q.c) (.ofNib q.d))
  | _ => if nibTop q.c then withER q.d fun n => .movLReg (nibField q.c) n
         else withZero q.c <| .instr (.daa (.ofNib q.d))

/-- First bytes 10 to 1F (R110, R111). -/
def decode1 (q : Quad) : DecodeResult :=
  match q.b.toNat with
  | 0x0 => decode10 q
  | 0x1 => decode11 q
  | 0x2 => decode12 q
  | 0x3 => decode13 q
  | 0x4 => .instr (.orBReg (.ofNib q.c) (.ofNib q.d))
  | 0x5 => .instr (.xorBReg (.ofNib q.c) (.ofNib q.d))
  | 0x6 => .instr (.andBReg (.ofNib q.c) (.ofNib q.d))
  | 0x7 => decode17 q
  | 0x8 => .instr (.subBReg (.ofNib q.c) (.ofNib q.d))
  | 0x9 => .instr (.subWReg (.ofNib q.c) (.ofNib q.d))
  | 0xA => if nibTop q.c then withER q.d fun n => .subLReg (nibField q.c) n
           else withZero q.c <| .instr (.decB (.ofNib q.d))
  | 0xB => decode1B q
  | 0xC => .instr (.cmpBReg (.ofNib q.c) (.ofNib q.d))
  | 0xD => .instr (.cmpWReg (.ofNib q.c) (.ofNib q.d))
  | 0xE => .instr (.subxReg (.ofNib q.c) (.ofNib q.d))
  | _ => if nibTop q.c then withER q.d fun n => .cmpLReg (nibField q.c) n
         else withZero q.c <| .instr (.das (.ofNib q.d))

/-- First bytes 40 to 4F: Bcc d:8, the low nibble being the condition (R401, R402). -/
def decode4 (q : Quad) : Instr :=
  match q.b.toNat with
  | 0x0 => .braD8 q.lowByte
  | 0x1 => .brnD8 q.lowByte
  | 0x2 => .bhiD8 q.lowByte
  | 0x3 => .blsD8 q.lowByte
  | 0x4 => .bccD8 q.lowByte
  | 0x5 => .bcsD8 q.lowByte
  | 0x6 => .bneD8 q.lowByte
  | 0x7 => .beqD8 q.lowByte
  | 0x8 => .bvcD8 q.lowByte
  | 0x9 => .bvsD8 q.lowByte
  | 0xA => .bplD8 q.lowByte
  | 0xB => .bmiD8 q.lowByte
  | 0xC => .bgeD8 q.lowByte
  | 0xD => .bltD8 q.lowByte
  | 0xE => .bgtD8 q.lowByte
  | _ => .bleD8 q.lowByte

/-- First byte 58: Bcc d:16, the upper nibble of the second byte being the condition (R401, R403). -/
def bccD16 (c : BitVec 4) (disp : Word) : Instr :=
  match c.toNat with
  | 0x0 => .braD16 disp
  | 0x1 => .brnD16 disp
  | 0x2 => .bhiD16 disp
  | 0x3 => .blsD16 disp
  | 0x4 => .bccD16 disp
  | 0x5 => .bcsD16 disp
  | 0x6 => .bneD16 disp
  | 0x7 => .beqD16 disp
  | 0x8 => .bvcD16 disp
  | 0x9 => .bvsD16 disp
  | 0xA => .bplD16 disp
  | 0xB => .bmiD16 disp
  | 0xC => .bgeD16 disp
  | 0xD => .bltD16 disp
  | 0xE => .bgtD16 disp
  | _ => .bleD16 disp

/-- First bytes 50 to 5F (R110, R414). -/
def decode5 (q : Quad) (rest : List Quad) : DecodeResult :=
  match q.b.toNat with
  | 0x0 => .instr (.mulxuBReg (.ofNib q.c) (.ofNib q.d))
  | 0x1 => .instr (.divxuBReg (.ofNib q.c) (.ofNib q.d))
  | 0x2 => withER q.d fun n => .mulxuWReg (.ofNib q.c) n
  | 0x3 => withER q.d fun n => .divxuWReg (.ofNib q.c) n
  | 0x4 => if q.c = 0x7#4 then withZero q.d <| .instr .rts else .undefinedCode
  | 0x5 => .instr (.bsrD8 q.lowByte)
  | 0x6 => if q.c = 0x7#4 then withZero q.d <| .instr .rte else .undefinedCode
  | 0x7 => if q.c.extractLsb' 2 2 = 0#2 then withZero q.d <| .instr (.trapa (q.c.extractLsb' 0 2))
           else .undefinedCode
  | 0x8 => withZero q.d <| withExt16 rest fun x => .instr (Sys2Proof.bccD16 q.c x)
  | 0x9 => withZero q.d <| withER q.c .jmpInd
  | 0xA => withWord rest fun q' _ => .instr (.jmpAbs24 (addrOf q.lowByte q'.toWord))
  | 0xB => .instr (.jmpMemInd q.lowByte)
  | 0xC => withZero q.c <| withZero q.d <| withExt16 rest fun x => .instr (.bsrD16 x)
  | 0xD => withZero q.d <| withER q.c .jsrInd
  | 0xE => withWord rest fun q' _ => .instr (.jsrAbs24 (addrOf q.lowByte q'.toWord))
  | _ => .instr (.jsrMemInd q.lowByte)

/-- First byte 6A: MOV.B with a 16- or 24-bit address, MOVFPE, MOVTPE (R101, R180, R181, R187, R188, R222, R223). -/
def decode6A (q : Quad) (rest : List Quad) : DecodeResult :=
  match q.c.toNat with
  | 0x0 => withExt16 rest fun x => .instr (.movBLoadAbs16 x (.ofNib q.d))
  | 0x2 => withExt24 rest fun x => .instr (.movBLoadAbs24 x (.ofNib q.d))
  | 0x4 => withExt16 rest fun x => .instr (.movfpe x (.ofNib q.d))
  | 0x8 => withExt16 rest fun x => .instr (.movBStoreAbs16 (.ofNib q.d) x)
  | 0xA => withExt24 rest fun x => .instr (.movBStoreAbs24 (.ofNib q.d) x)
  | 0xC => withExt16 rest fun x => .instr (.movtpe (.ofNib q.d) x)
  | _ => .undefinedCode

/-- First byte 6B: MOV.W with a 16- or 24-bit address (R101, R195, R196, R201, R202). -/
def decode6B (q : Quad) (rest : List Quad) : DecodeResult :=
  match q.c.toNat with
  | 0x0 => withExt16 rest fun x => .instr (.movWLoadAbs16 x (.ofNib q.d))
  | 0x2 => withExt24 rest fun x => .instr (.movWLoadAbs24 x (.ofNib q.d))
  | 0x8 => withExt16 rest fun x => .instr (.movWStoreAbs16 (.ofNib q.d) x)
  | 0xA => withExt24 rest fun x => .instr (.movWStoreAbs24 (.ofNib q.d) x)
  | _ => .undefinedCode

/-- First bytes 60 to 6F (R110): for 68 to 6F the top bit of the second byte selects load (0) or store (1). -/
def decode6 (q : Quad) (rest : List Quad) : DecodeResult :=
  match q.b.toNat with
  | 0x4 => .instr (.orWReg (.ofNib q.c) (.ofNib q.d))
  | 0x5 => .instr (.xorWReg (.ofNib q.c) (.ofNib q.d))
  | 0x6 => .instr (.andWReg (.ofNib q.c) (.ofNib q.d))
  | 0x8 => .instr (if nibTop q.c then .movBStoreInd (.ofNib q.d) (nibField q.c)
                   else .movBLoadInd (nibField q.c) (.ofNib q.d))
  | 0x9 => .instr (if nibTop q.c then .movWStoreInd (.ofNib q.d) (nibField q.c)
                   else .movWLoadInd (nibField q.c) (.ofNib q.d))
  | 0xA => decode6A q rest
  | 0xB => decode6B q rest
  | 0xC => .instr (if nibTop q.c then .movBStorePreDec (.ofNib q.d) (nibField q.c)
                   else .movBLoadPostInc (nibField q.c) (.ofNib q.d))
  | 0xD => .instr (if q.c = 0x7#4 then .popW (.ofNib q.d)
                   else if q.c = 0xF#4 then .pushW (.ofNib q.d)
                   else if nibTop q.c then .movWStorePreDec (.ofNib q.d) (nibField q.c)
                   else .movWLoadPostInc (nibField q.c) (.ofNib q.d))
  | 0xE => withExt16 rest fun x =>
      .instr (if nibTop q.c then .movBStoreDisp16 (.ofNib q.d) x (nibField q.c)
              else .movBLoadDisp16 x (nibField q.c) (.ofNib q.d))
  | 0xF => withExt16 rest fun x =>
      .instr (if nibTop q.c then .movWStoreDisp16 (.ofNib q.d) x (nibField q.c)
              else .movWLoadDisp16 x (nibField q.c) (.ofNib q.d))
  | _ => decodeBit6Reg q.b q.c q.d

/-- First byte 79: word immediates (R111). -/
def decode79 (q : Quad) (x : Word) : DecodeResult :=
  match q.c.toNat with
  | 0x0 => .instr (.movWImm x (.ofNib q.d))
  | 0x1 => .instr (.addWImm x (.ofNib q.d))
  | 0x2 => .instr (.cmpWImm x (.ofNib q.d))
  | 0x3 => .instr (.subWImm x (.ofNib q.d))
  | 0x4 => .instr (.orWImm x (.ofNib q.d))
  | 0x5 => .instr (.xorWImm x (.ofNib q.d))
  | 0x6 => .instr (.andWImm x (.ofNib q.d))
  | _ => .undefinedCode

/-- First byte 7A: longword immediates (R111). -/
def decode7A (q : Quad) (x : Long) : DecodeResult :=
  match q.c.toNat with
  | 0x0 => withER q.d fun n => .movLImm x n
  | 0x1 => withER q.d fun n => .addLImm x n
  | 0x2 => withER q.d fun n => .cmpLImm x n
  | 0x3 => withER q.d fun n => .subLImm x n
  | 0x4 => withER q.d fun n => .orLImm x n
  | 0x5 => withER q.d fun n => .xorLImm x n
  | 0x6 => withER q.d fun n => .andLImm x n
  | _ => .undefinedCode

/-- Whether the second byte of a 79 or 7A word selects an instruction at all (R111, R114): if not, no extension is
fetched. -/
def immSelector (c : BitVec 4) : Bool := c.toNat < 7

/-- First byte 7B: EEPMOV, exact words only (R470, R471, R474e). -/
def decode7B (q : Quad) (rest : List Quad) : DecodeResult :=
  if q.lowByte = 0x5C#8 then
    withWord rest fun q' _ => if q'.toWord = 0x598F#16 then .instr .eepmovB else .undefinedCode
  else if q.lowByte = 0xD4#8 then
    withWord rest fun q' _ => if q'.toWord = 0x598F#16 then .instr .eepmovW else .undefinedCode
  else .undefinedCode

/-- First bytes 70 to 7F (R110, R111, R112). -/
def decode7 (q : Quad) (rest : List Quad) : DecodeResult :=
  match q.b.toNat with
  | 0x8 => if nibTop q.c then .undefinedCode else
      withZero q.d <| withWord rest fun q' rest' => decode78 (nibField q.c) q' rest'
  | 0x9 => if immSelector q.c then withExt16 rest fun x => decode79 q x else .undefinedCode
  | 0xA => if immSelector q.c && !nibTop q.d then withExt32 rest fun x => decode7A q x else .undefinedCode
  | 0xB => decode7B q rest
  | 0xC => if nibTop q.c then .undefinedCode else
      withZero q.d <| withWord rest fun q' _ => decode7C (nibField q.c) q'
  | 0xD => if nibTop q.c then .undefinedCode else
      withZero q.d <| withWord rest fun q' _ => decode7D (nibField q.c) q'
  | 0xE => withWord rest fun q' _ => decode7E q.lowByte q'
  | 0xF => withWord rest fun q' _ => decode7F q.lowByte q'
  | _ => decodeBit7Reg q.b q.c q.d

/-- Decoding over nibbles: the first level of the operation code map (R110). -/
def decodeQuads (ws : List Quad) : DecodeResult :=
  withWord ws fun q rest =>
    match q.a.toNat with
    | 0x0 => decode0 q rest
    | 0x1 => decode1 q
    | 0x2 => .instr (.movBLoadAbs8 q.lowByte (.ofNib q.b))
    | 0x3 => .instr (.movBStoreAbs8 (.ofNib q.b) q.lowByte)
    | 0x4 => .instr (decode4 q)
    | 0x5 => decode5 q rest
    | 0x6 => decode6 q rest
    | 0x7 => decode7 q rest
    | 0x8 => .instr (.addBImm q.lowByte (.ofNib q.b))
    | 0x9 => .instr (.addxImm q.lowByte (.ofNib q.b))
    | 0xA => .instr (.cmpBImm q.lowByte (.ofNib q.b))
    | 0xB => .instr (.subxImm q.lowByte (.ofNib q.b))
    | 0xC => .instr (.orBImm q.lowByte (.ofNib q.b))
    | 0xD => .instr (.xorBImm q.lowByte (.ofNib q.b))
    | 0xE => .instr (.andBImm q.lowByte (.ofNib q.b))
    | _ => .instr (.movBImm q.lowByte (.ofNib q.b))

/-- Decoding a sequence of instruction words, the first word first; words past the instruction are not looked at
(R113). -/
def decode (ws : List Word) : DecodeResult := decodeQuads (ws.map Quad.ofWord)

end

/-! ### Encoding -/

/-- The words of an instruction as nibbles, one arm per format row (R104, R105, R107). -/
def encodeQuads : Instr → List Quad
  | .movBImm imm rd => [⟨0xF#4, rd.nib, nibHi imm, nibLo imm⟩]
  | .movBReg rs rd => [⟨0x0#4, 0xC#4, rs.nib, rd.nib⟩]
  | .movBLoadInd ers rd => [⟨0x6#4, 0x8#4, nib0 ers, rd.nib⟩]
  | .movBLoadDisp16 disp ers rd => [⟨0x6#4, 0xE#4, nib0 ers, rd.nib⟩, .ofWord disp]
  | .movBLoadDisp24 disp ers rd => [⟨0x7#4, 0x8#4, nib0 ers, 0x0#4⟩, ⟨0x6#4, 0xA#4, 0x2#4, rd.nib⟩, ⟨0x0#4, 0x0#4, nibHi (addrTop disp), nibLo (addrTop disp)⟩, .ofWord (addrLow disp)]
  | .movBLoadPostInc ers rd => [⟨0x6#4, 0xC#4, nib0 ers, rd.nib⟩]
  | .movBLoadAbs8 abs rd => [⟨0x2#4, rd.nib, nibHi abs, nibLo abs⟩]
  | .movBLoadAbs16 abs rd => [⟨0x6#4, 0xA#4, 0x0#4, rd.nib⟩, .ofWord abs]
  | .movBLoadAbs24 abs rd => [⟨0x6#4, 0xA#4, 0x2#4, rd.nib⟩, ⟨0x0#4, 0x0#4, nibHi (addrTop abs), nibLo (addrTop abs)⟩, .ofWord (addrLow abs)]
  | .movBStoreInd rs erd => [⟨0x6#4, 0x8#4, nib1 erd, rs.nib⟩]
  | .movBStorePreDec rs erd => [⟨0x6#4, 0xC#4, nib1 erd, rs.nib⟩]
  | .movBStoreDisp16 rs disp erd => [⟨0x6#4, 0xE#4, nib1 erd, rs.nib⟩, .ofWord disp]
  | .movBStoreDisp24 rs disp erd => [⟨0x7#4, 0x8#4, nib0 erd, 0x0#4⟩, ⟨0x6#4, 0xA#4, 0xA#4, rs.nib⟩, ⟨0x0#4, 0x0#4, nibHi (addrTop disp), nibLo (addrTop disp)⟩, .ofWord (addrLow disp)]
  | .movBStoreAbs8 rs abs => [⟨0x3#4, rs.nib, nibHi abs, nibLo abs⟩]
  | .movBStoreAbs16 rs abs => [⟨0x6#4, 0xA#4, 0x8#4, rs.nib⟩, .ofWord abs]
  | .movBStoreAbs24 rs abs => [⟨0x6#4, 0xA#4, 0xA#4, rs.nib⟩, ⟨0x0#4, 0x0#4, nibHi (addrTop abs), nibLo (addrTop abs)⟩, .ofWord (addrLow abs)]
  | .movWImm imm rd => [⟨0x7#4, 0x9#4, 0x0#4, rd.nib⟩, .ofWord imm]
  | .movWReg rs rd => [⟨0x0#4, 0xD#4, rs.nib, rd.nib⟩]
  | .movWLoadInd ers rd => [⟨0x6#4, 0x9#4, nib0 ers, rd.nib⟩]
  | .movWLoadDisp16 disp ers rd => [⟨0x6#4, 0xF#4, nib0 ers, rd.nib⟩, .ofWord disp]
  | .movWLoadDisp24 disp ers rd => [⟨0x7#4, 0x8#4, nib0 ers, 0x0#4⟩, ⟨0x6#4, 0xB#4, 0x2#4, rd.nib⟩, ⟨0x0#4, 0x0#4, nibHi (addrTop disp), nibLo (addrTop disp)⟩, .ofWord (addrLow disp)]
  | .movWLoadPostInc ers rd => [⟨0x6#4, 0xD#4, nib0 ers, rd.nib⟩]
  | .movWLoadAbs16 abs rd => [⟨0x6#4, 0xB#4, 0x0#4, rd.nib⟩, .ofWord abs]
  | .movWLoadAbs24 abs rd => [⟨0x6#4, 0xB#4, 0x2#4, rd.nib⟩, ⟨0x0#4, 0x0#4, nibHi (addrTop abs), nibLo (addrTop abs)⟩, .ofWord (addrLow abs)]
  | .movWStoreInd rs erd => [⟨0x6#4, 0x9#4, nib1 erd, rs.nib⟩]
  | .movWStorePreDec rs erd => [⟨0x6#4, 0xD#4, nib1 erd, rs.nib⟩]
  | .movWStoreDisp16 rs disp erd => [⟨0x6#4, 0xF#4, nib1 erd, rs.nib⟩, .ofWord disp]
  | .movWStoreDisp24 rs disp erd => [⟨0x7#4, 0x8#4, nib0 erd, 0x0#4⟩, ⟨0x6#4, 0xB#4, 0xA#4, rs.nib⟩, ⟨0x0#4, 0x0#4, nibHi (addrTop disp), nibLo (addrTop disp)⟩, .ofWord (addrLow disp)]
  | .movWStoreAbs16 rs abs => [⟨0x6#4, 0xB#4, 0x8#4, rs.nib⟩, .ofWord abs]
  | .movWStoreAbs24 rs abs => [⟨0x6#4, 0xB#4, 0xA#4, rs.nib⟩, ⟨0x0#4, 0x0#4, nibHi (addrTop abs), nibLo (addrTop abs)⟩, .ofWord (addrLow abs)]
  | .movLImm imm erd => [⟨0x7#4, 0xA#4, 0x0#4, nib0 erd⟩, .ofWord (longHigh imm), .ofWord (longLow imm)]
  | .movLReg ers erd => [⟨0x0#4, 0xF#4, nib1 ers, nib0 erd⟩]
  | .movLLoadInd ers erd => [⟨0x0#4, 0x1#4, 0x0#4, 0x0#4⟩, ⟨0x6#4, 0x9#4, nib0 ers, nib0 erd⟩]
  | .movLLoadDisp16 disp ers erd => [⟨0x0#4, 0x1#4, 0x0#4, 0x0#4⟩, ⟨0x6#4, 0xF#4, nib0 ers, nib0 erd⟩, .ofWord disp]
  | .movLLoadDisp24 disp ers erd => [⟨0x0#4, 0x1#4, 0x0#4, 0x0#4⟩, ⟨0x7#4, 0x8#4, nib0 ers, 0x0#4⟩, ⟨0x6#4, 0xB#4, 0x2#4, nib0 erd⟩, ⟨0x0#4, 0x0#4, nibHi (addrTop disp), nibLo (addrTop disp)⟩, .ofWord (addrLow disp)]
  | .movLLoadPostInc ers erd => [⟨0x0#4, 0x1#4, 0x0#4, 0x0#4⟩, ⟨0x6#4, 0xD#4, nib0 ers, nib0 erd⟩]
  | .movLLoadAbs16 abs erd => [⟨0x0#4, 0x1#4, 0x0#4, 0x0#4⟩, ⟨0x6#4, 0xB#4, 0x0#4, nib0 erd⟩, .ofWord abs]
  | .movLLoadAbs24 abs erd => [⟨0x0#4, 0x1#4, 0x0#4, 0x0#4⟩, ⟨0x6#4, 0xB#4, 0x2#4, nib0 erd⟩, ⟨0x0#4, 0x0#4, nibHi (addrTop abs), nibLo (addrTop abs)⟩, .ofWord (addrLow abs)]
  | .movLStorePreDec ers erd => [⟨0x0#4, 0x1#4, 0x0#4, 0x0#4⟩, ⟨0x6#4, 0xD#4, nib1 erd, nib0 ers⟩]
  | .movLStoreInd ers erd => [⟨0x0#4, 0x1#4, 0x0#4, 0x0#4⟩, ⟨0x6#4, 0x9#4, nib1 erd, nib0 ers⟩]
  | .movLStoreDisp16 ers disp erd => [⟨0x0#4, 0x1#4, 0x0#4, 0x0#4⟩, ⟨0x6#4, 0xF#4, nib1 erd, nib0 ers⟩, .ofWord disp]
  | .movLStoreDisp24 ers disp erd => [⟨0x0#4, 0x1#4, 0x0#4, 0x0#4⟩, ⟨0x7#4, 0x8#4, nib0 erd, 0x0#4⟩, ⟨0x6#4, 0xB#4, 0xA#4, nib0 ers⟩, ⟨0x0#4, 0x0#4, nibHi (addrTop disp), nibLo (addrTop disp)⟩, .ofWord (addrLow disp)]
  | .movLStoreAbs16 ers abs => [⟨0x0#4, 0x1#4, 0x0#4, 0x0#4⟩, ⟨0x6#4, 0xB#4, 0x8#4, nib0 ers⟩, .ofWord abs]
  | .movLStoreAbs24 ers abs => [⟨0x0#4, 0x1#4, 0x0#4, 0x0#4⟩, ⟨0x6#4, 0xB#4, 0xA#4, nib0 ers⟩, ⟨0x0#4, 0x0#4, nibHi (addrTop abs), nibLo (addrTop abs)⟩, .ofWord (addrLow abs)]
  | .pushW rn => [⟨0x6#4, 0xD#4, 0xF#4, rn.nib⟩]
  | .pushL ern => [⟨0x0#4, 0x1#4, 0x0#4, 0x0#4⟩, ⟨0x6#4, 0xD#4, 0xF#4, nib0 ern⟩]
  | .popW rn => [⟨0x6#4, 0xD#4, 0x7#4, rn.nib⟩]
  | .popL ern => [⟨0x0#4, 0x1#4, 0x0#4, 0x0#4⟩, ⟨0x6#4, 0xD#4, 0x7#4, nib0 ern⟩]
  | .movfpe abs rd => [⟨0x6#4, 0xA#4, 0x4#4, rd.nib⟩, .ofWord abs]
  | .movtpe rs abs => [⟨0x6#4, 0xA#4, 0xC#4, rs.nib⟩, .ofWord abs]
  | .addBImm imm rd => [⟨0x8#4, rd.nib, nibHi imm, nibLo imm⟩]
  | .addBReg rs rd => [⟨0x0#4, 0x8#4, rs.nib, rd.nib⟩]
  | .addWImm imm rd => [⟨0x7#4, 0x9#4, 0x1#4, rd.nib⟩, .ofWord imm]
  | .addWReg rs rd => [⟨0x0#4, 0x9#4, rs.nib, rd.nib⟩]
  | .addLImm imm erd => [⟨0x7#4, 0xA#4, 0x1#4, nib0 erd⟩, .ofWord (longHigh imm), .ofWord (longLow imm)]
  | .addLReg ers erd => [⟨0x0#4, 0xA#4, nib1 ers, nib0 erd⟩]
  | .adds1 erd => [⟨0x0#4, 0xB#4, 0x0#4, nib0 erd⟩]
  | .adds2 erd => [⟨0x0#4, 0xB#4, 0x8#4, nib0 erd⟩]
  | .adds4 erd => [⟨0x0#4, 0xB#4, 0x9#4, nib0 erd⟩]
  | .addxImm imm rd => [⟨0x9#4, rd.nib, nibHi imm, nibLo imm⟩]
  | .addxReg rs rd => [⟨0x0#4, 0xE#4, rs.nib, rd.nib⟩]
  | .cmpBImm imm rd => [⟨0xA#4, rd.nib, nibHi imm, nibLo imm⟩]
  | .cmpBReg rs rd => [⟨0x1#4, 0xC#4, rs.nib, rd.nib⟩]
  | .cmpWImm imm rd => [⟨0x7#4, 0x9#4, 0x2#4, rd.nib⟩, .ofWord imm]
  | .cmpWReg rs rd => [⟨0x1#4, 0xD#4, rs.nib, rd.nib⟩]
  | .cmpLImm imm erd => [⟨0x7#4, 0xA#4, 0x2#4, nib0 erd⟩, .ofWord (longHigh imm), .ofWord (longLow imm)]
  | .cmpLReg ers erd => [⟨0x1#4, 0xF#4, nib1 ers, nib0 erd⟩]
  | .daa rd => [⟨0x0#4, 0xF#4, 0x0#4, rd.nib⟩]
  | .das rd => [⟨0x1#4, 0xF#4, 0x0#4, rd.nib⟩]
  | .decB rd => [⟨0x1#4, 0xA#4, 0x0#4, rd.nib⟩]
  | .decW1 rd => [⟨0x1#4, 0xB#4, 0x5#4, rd.nib⟩]
  | .decW2 rd => [⟨0x1#4, 0xB#4, 0xD#4, rd.nib⟩]
  | .decL1 erd => [⟨0x1#4, 0xB#4, 0x7#4, nib0 erd⟩]
  | .decL2 erd => [⟨0x1#4, 0xB#4, 0xF#4, nib0 erd⟩]
  | .divxsBReg rs rd => [⟨0x0#4, 0x1#4, 0xD#4, 0x0#4⟩, ⟨0x5#4, 0x1#4, rs.nib, rd.nib⟩]
  | .divxsWReg rs erd => [⟨0x0#4, 0x1#4, 0xD#4, 0x0#4⟩, ⟨0x5#4, 0x3#4, rs.nib, nib0 erd⟩]
  | .divxuBReg rs rd => [⟨0x5#4, 0x1#4, rs.nib, rd.nib⟩]
  | .divxuWReg rs erd => [⟨0x5#4, 0x3#4, rs.nib, nib0 erd⟩]
  | .extsW rd => [⟨0x1#4, 0x7#4, 0xD#4, rd.nib⟩]
  | .extsL erd => [⟨0x1#4, 0x7#4, 0xF#4, nib0 erd⟩]
  | .extuW rd => [⟨0x1#4, 0x7#4, 0x5#4, rd.nib⟩]
  | .extuL erd => [⟨0x1#4, 0x7#4, 0x7#4, nib0 erd⟩]
  | .incB rd => [⟨0x0#4, 0xA#4, 0x0#4, rd.nib⟩]
  | .incW1 rd => [⟨0x0#4, 0xB#4, 0x5#4, rd.nib⟩]
  | .incW2 rd => [⟨0x0#4, 0xB#4, 0xD#4, rd.nib⟩]
  | .incL1 erd => [⟨0x0#4, 0xB#4, 0x7#4, nib0 erd⟩]
  | .incL2 erd => [⟨0x0#4, 0xB#4, 0xF#4, nib0 erd⟩]
  | .mulxsBReg rs rd => [⟨0x0#4, 0x1#4, 0xC#4, 0x0#4⟩, ⟨0x5#4, 0x0#4, rs.nib, rd.nib⟩]
  | .mulxsWReg rs erd => [⟨0x0#4, 0x1#4, 0xC#4, 0x0#4⟩, ⟨0x5#4, 0x2#4, rs.nib, nib0 erd⟩]
  | .mulxuBReg rs rd => [⟨0x5#4, 0x0#4, rs.nib, rd.nib⟩]
  | .mulxuWReg rs erd => [⟨0x5#4, 0x2#4, rs.nib, nib0 erd⟩]
  | .negB rd => [⟨0x1#4, 0x7#4, 0x8#4, rd.nib⟩]
  | .negW rd => [⟨0x1#4, 0x7#4, 0x9#4, rd.nib⟩]
  | .negL erd => [⟨0x1#4, 0x7#4, 0xB#4, nib0 erd⟩]
  | .subBReg rs rd => [⟨0x1#4, 0x8#4, rs.nib, rd.nib⟩]
  | .subWImm imm rd => [⟨0x7#4, 0x9#4, 0x3#4, rd.nib⟩, .ofWord imm]
  | .subWReg rs rd => [⟨0x1#4, 0x9#4, rs.nib, rd.nib⟩]
  | .subLImm imm erd => [⟨0x7#4, 0xA#4, 0x3#4, nib0 erd⟩, .ofWord (longHigh imm), .ofWord (longLow imm)]
  | .subLReg ers erd => [⟨0x1#4, 0xA#4, nib1 ers, nib0 erd⟩]
  | .subs1 erd => [⟨0x1#4, 0xB#4, 0x0#4, nib0 erd⟩]
  | .subs2 erd => [⟨0x1#4, 0xB#4, 0x8#4, nib0 erd⟩]
  | .subs4 erd => [⟨0x1#4, 0xB#4, 0x9#4, nib0 erd⟩]
  | .subxImm imm rd => [⟨0xB#4, rd.nib, nibHi imm, nibLo imm⟩]
  | .subxReg rs rd => [⟨0x1#4, 0xE#4, rs.nib, rd.nib⟩]
  | .andBImm imm rd => [⟨0xE#4, rd.nib, nibHi imm, nibLo imm⟩]
  | .andBReg rs rd => [⟨0x1#4, 0x6#4, rs.nib, rd.nib⟩]
  | .andWImm imm rd => [⟨0x7#4, 0x9#4, 0x6#4, rd.nib⟩, .ofWord imm]
  | .andWReg rs rd => [⟨0x6#4, 0x6#4, rs.nib, rd.nib⟩]
  | .andLImm imm erd => [⟨0x7#4, 0xA#4, 0x6#4, nib0 erd⟩, .ofWord (longHigh imm), .ofWord (longLow imm)]
  | .andLReg ers erd => [⟨0x0#4, 0x1#4, 0xF#4, 0x0#4⟩, ⟨0x6#4, 0x6#4, nib0 ers, nib0 erd⟩]
  | .orBImm imm rd => [⟨0xC#4, rd.nib, nibHi imm, nibLo imm⟩]
  | .orBReg rs rd => [⟨0x1#4, 0x4#4, rs.nib, rd.nib⟩]
  | .orWImm imm rd => [⟨0x7#4, 0x9#4, 0x4#4, rd.nib⟩, .ofWord imm]
  | .orWReg rs rd => [⟨0x6#4, 0x4#4, rs.nib, rd.nib⟩]
  | .orLImm imm erd => [⟨0x7#4, 0xA#4, 0x4#4, nib0 erd⟩, .ofWord (longHigh imm), .ofWord (longLow imm)]
  | .orLReg ers erd => [⟨0x0#4, 0x1#4, 0xF#4, 0x0#4⟩, ⟨0x6#4, 0x4#4, nib0 ers, nib0 erd⟩]
  | .xorBImm imm rd => [⟨0xD#4, rd.nib, nibHi imm, nibLo imm⟩]
  | .xorBReg rs rd => [⟨0x1#4, 0x5#4, rs.nib, rd.nib⟩]
  | .xorWImm imm rd => [⟨0x7#4, 0x9#4, 0x5#4, rd.nib⟩, .ofWord imm]
  | .xorWReg rs rd => [⟨0x6#4, 0x5#4, rs.nib, rd.nib⟩]
  | .xorLImm imm erd => [⟨0x7#4, 0xA#4, 0x5#4, nib0 erd⟩, .ofWord (longHigh imm), .ofWord (longLow imm)]
  | .xorLReg ers erd => [⟨0x0#4, 0x1#4, 0xF#4, 0x0#4⟩, ⟨0x6#4, 0x5#4, nib0 ers, nib0 erd⟩]
  | .notB rd => [⟨0x1#4, 0x7#4, 0x0#4, rd.nib⟩]
  | .notW rd => [⟨0x1#4, 0x7#4, 0x1#4, rd.nib⟩]
  | .notL erd => [⟨0x1#4, 0x7#4, 0x3#4, nib0 erd⟩]
  | .shalB rd => [⟨0x1#4, 0x0#4, 0x8#4, rd.nib⟩]
  | .shalW rd => [⟨0x1#4, 0x0#4, 0x9#4, rd.nib⟩]
  | .shalL erd => [⟨0x1#4, 0x0#4, 0xB#4, nib0 erd⟩]
  | .sharB rd => [⟨0x1#4, 0x1#4, 0x8#4, rd.nib⟩]
  | .sharW rd => [⟨0x1#4, 0x1#4, 0x9#4, rd.nib⟩]
  | .sharL erd => [⟨0x1#4, 0x1#4, 0xB#4, nib0 erd⟩]
  | .shllB rd => [⟨0x1#4, 0x0#4, 0x0#4, rd.nib⟩]
  | .shllW rd => [⟨0x1#4, 0x0#4, 0x1#4, rd.nib⟩]
  | .shllL erd => [⟨0x1#4, 0x0#4, 0x3#4, nib0 erd⟩]
  | .shlrB rd => [⟨0x1#4, 0x1#4, 0x0#4, rd.nib⟩]
  | .shlrW rd => [⟨0x1#4, 0x1#4, 0x1#4, rd.nib⟩]
  | .shlrL erd => [⟨0x1#4, 0x1#4, 0x3#4, nib0 erd⟩]
  | .rotlB rd => [⟨0x1#4, 0x2#4, 0x8#4, rd.nib⟩]
  | .rotlW rd => [⟨0x1#4, 0x2#4, 0x9#4, rd.nib⟩]
  | .rotlL erd => [⟨0x1#4, 0x2#4, 0xB#4, nib0 erd⟩]
  | .rotrB rd => [⟨0x1#4, 0x3#4, 0x8#4, rd.nib⟩]
  | .rotrW rd => [⟨0x1#4, 0x3#4, 0x9#4, rd.nib⟩]
  | .rotrL erd => [⟨0x1#4, 0x3#4, 0xB#4, nib0 erd⟩]
  | .rotxlB rd => [⟨0x1#4, 0x2#4, 0x0#4, rd.nib⟩]
  | .rotxlW rd => [⟨0x1#4, 0x2#4, 0x1#4, rd.nib⟩]
  | .rotxlL erd => [⟨0x1#4, 0x2#4, 0x3#4, nib0 erd⟩]
  | .rotxrB rd => [⟨0x1#4, 0x3#4, 0x0#4, rd.nib⟩]
  | .rotxrW rd => [⟨0x1#4, 0x3#4, 0x1#4, rd.nib⟩]
  | .rotxrL erd => [⟨0x1#4, 0x3#4, 0x3#4, nib0 erd⟩]
  | .bsetImmReg imm rd => [⟨0x7#4, 0x0#4, nib0 imm, rd.nib⟩]
  | .bsetImmInd imm erd => [⟨0x7#4, 0xD#4, nib0 erd, 0x0#4⟩, ⟨0x7#4, 0x0#4, nib0 imm, 0x0#4⟩]
  | .bsetImmAbs8 imm abs => [⟨0x7#4, 0xF#4, nibHi abs, nibLo abs⟩, ⟨0x7#4, 0x0#4, nib0 imm, 0x0#4⟩]
  | .bsetRegReg rn rd => [⟨0x6#4, 0x0#4, rn.nib, rd.nib⟩]
  | .bsetRegInd rn erd => [⟨0x7#4, 0xD#4, nib0 erd, 0x0#4⟩, ⟨0x6#4, 0x0#4, rn.nib, 0x0#4⟩]
  | .bsetRegAbs8 rn abs => [⟨0x7#4, 0xF#4, nibHi abs, nibLo abs⟩, ⟨0x6#4, 0x0#4, rn.nib, 0x0#4⟩]
  | .bclrImmReg imm rd => [⟨0x7#4, 0x2#4, nib0 imm, rd.nib⟩]
  | .bclrImmInd imm erd => [⟨0x7#4, 0xD#4, nib0 erd, 0x0#4⟩, ⟨0x7#4, 0x2#4, nib0 imm, 0x0#4⟩]
  | .bclrImmAbs8 imm abs => [⟨0x7#4, 0xF#4, nibHi abs, nibLo abs⟩, ⟨0x7#4, 0x2#4, nib0 imm, 0x0#4⟩]
  | .bclrRegReg rn rd => [⟨0x6#4, 0x2#4, rn.nib, rd.nib⟩]
  | .bclrRegInd rn erd => [⟨0x7#4, 0xD#4, nib0 erd, 0x0#4⟩, ⟨0x6#4, 0x2#4, rn.nib, 0x0#4⟩]
  | .bclrRegAbs8 rn abs => [⟨0x7#4, 0xF#4, nibHi abs, nibLo abs⟩, ⟨0x6#4, 0x2#4, rn.nib, 0x0#4⟩]
  | .bnotImmReg imm rd => [⟨0x7#4, 0x1#4, nib0 imm, rd.nib⟩]
  | .bnotImmInd imm erd => [⟨0x7#4, 0xD#4, nib0 erd, 0x0#4⟩, ⟨0x7#4, 0x1#4, nib0 imm, 0x0#4⟩]
  | .bnotImmAbs8 imm abs => [⟨0x7#4, 0xF#4, nibHi abs, nibLo abs⟩, ⟨0x7#4, 0x1#4, nib0 imm, 0x0#4⟩]
  | .bnotRegReg rn rd => [⟨0x6#4, 0x1#4, rn.nib, rd.nib⟩]
  | .bnotRegInd rn erd => [⟨0x7#4, 0xD#4, nib0 erd, 0x0#4⟩, ⟨0x6#4, 0x1#4, rn.nib, 0x0#4⟩]
  | .bnotRegAbs8 rn abs => [⟨0x7#4, 0xF#4, nibHi abs, nibLo abs⟩, ⟨0x6#4, 0x1#4, rn.nib, 0x0#4⟩]
  | .btstImmReg imm rd => [⟨0x7#4, 0x3#4, nib0 imm, rd.nib⟩]
  | .btstImmInd imm erd => [⟨0x7#4, 0xC#4, nib0 erd, 0x0#4⟩, ⟨0x7#4, 0x3#4, nib0 imm, 0x0#4⟩]
  | .btstImmAbs8 imm abs => [⟨0x7#4, 0xE#4, nibHi abs, nibLo abs⟩, ⟨0x7#4, 0x3#4, nib0 imm, 0x0#4⟩]
  | .btstRegReg rn rd => [⟨0x6#4, 0x3#4, rn.nib, rd.nib⟩]
  | .btstRegInd rn erd => [⟨0x7#4, 0xC#4, nib0 erd, 0x0#4⟩, ⟨0x6#4, 0x3#4, rn.nib, 0x0#4⟩]
  | .btstRegAbs8 rn abs => [⟨0x7#4, 0xE#4, nibHi abs, nibLo abs⟩, ⟨0x6#4, 0x3#4, rn.nib, 0x0#4⟩]
  | .bandImmReg imm rd => [⟨0x7#4, 0x6#4, nib0 imm, rd.nib⟩]
  | .bandImmInd imm erd => [⟨0x7#4, 0xC#4, nib0 erd, 0x0#4⟩, ⟨0x7#4, 0x6#4, nib0 imm, 0x0#4⟩]
  | .bandImmAbs8 imm abs => [⟨0x7#4, 0xE#4, nibHi abs, nibLo abs⟩, ⟨0x7#4, 0x6#4, nib0 imm, 0x0#4⟩]
  | .biandImmReg imm rd => [⟨0x7#4, 0x6#4, nib1 imm, rd.nib⟩]
  | .biandImmInd imm erd => [⟨0x7#4, 0xC#4, nib0 erd, 0x0#4⟩, ⟨0x7#4, 0x6#4, nib1 imm, 0x0#4⟩]
  | .biandImmAbs8 imm abs => [⟨0x7#4, 0xE#4, nibHi abs, nibLo abs⟩, ⟨0x7#4, 0x6#4, nib1 imm, 0x0#4⟩]
  | .borImmReg imm rd => [⟨0x7#4, 0x4#4, nib0 imm, rd.nib⟩]
  | .borImmInd imm erd => [⟨0x7#4, 0xC#4, nib0 erd, 0x0#4⟩, ⟨0x7#4, 0x4#4, nib0 imm, 0x0#4⟩]
  | .borImmAbs8 imm abs => [⟨0x7#4, 0xE#4, nibHi abs, nibLo abs⟩, ⟨0x7#4, 0x4#4, nib0 imm, 0x0#4⟩]
  | .biorImmReg imm rd => [⟨0x7#4, 0x4#4, nib1 imm, rd.nib⟩]
  | .biorImmInd imm erd => [⟨0x7#4, 0xC#4, nib0 erd, 0x0#4⟩, ⟨0x7#4, 0x4#4, nib1 imm, 0x0#4⟩]
  | .biorImmAbs8 imm abs => [⟨0x7#4, 0xE#4, nibHi abs, nibLo abs⟩, ⟨0x7#4, 0x4#4, nib1 imm, 0x0#4⟩]
  | .bxorImmReg imm rd => [⟨0x7#4, 0x5#4, nib0 imm, rd.nib⟩]
  | .bxorImmInd imm erd => [⟨0x7#4, 0xC#4, nib0 erd, 0x0#4⟩, ⟨0x7#4, 0x5#4, nib0 imm, 0x0#4⟩]
  | .bxorImmAbs8 imm abs => [⟨0x7#4, 0xE#4, nibHi abs, nibLo abs⟩, ⟨0x7#4, 0x5#4, nib0 imm, 0x0#4⟩]
  | .bixorImmReg imm rd => [⟨0x7#4, 0x5#4, nib1 imm, rd.nib⟩]
  | .bixorImmInd imm erd => [⟨0x7#4, 0xC#4, nib0 erd, 0x0#4⟩, ⟨0x7#4, 0x5#4, nib1 imm, 0x0#4⟩]
  | .bixorImmAbs8 imm abs => [⟨0x7#4, 0xE#4, nibHi abs, nibLo abs⟩, ⟨0x7#4, 0x5#4, nib1 imm, 0x0#4⟩]
  | .bldImmReg imm rd => [⟨0x7#4, 0x7#4, nib0 imm, rd.nib⟩]
  | .bldImmInd imm erd => [⟨0x7#4, 0xC#4, nib0 erd, 0x0#4⟩, ⟨0x7#4, 0x7#4, nib0 imm, 0x0#4⟩]
  | .bldImmAbs8 imm abs => [⟨0x7#4, 0xE#4, nibHi abs, nibLo abs⟩, ⟨0x7#4, 0x7#4, nib0 imm, 0x0#4⟩]
  | .bildImmReg imm rd => [⟨0x7#4, 0x7#4, nib1 imm, rd.nib⟩]
  | .bildImmInd imm erd => [⟨0x7#4, 0xC#4, nib0 erd, 0x0#4⟩, ⟨0x7#4, 0x7#4, nib1 imm, 0x0#4⟩]
  | .bildImmAbs8 imm abs => [⟨0x7#4, 0xE#4, nibHi abs, nibLo abs⟩, ⟨0x7#4, 0x7#4, nib1 imm, 0x0#4⟩]
  | .bstImmReg imm rd => [⟨0x6#4, 0x7#4, nib0 imm, rd.nib⟩]
  | .bstImmInd imm erd => [⟨0x7#4, 0xD#4, nib0 erd, 0x0#4⟩, ⟨0x6#4, 0x7#4, nib0 imm, 0x0#4⟩]
  | .bstImmAbs8 imm abs => [⟨0x7#4, 0xF#4, nibHi abs, nibLo abs⟩, ⟨0x6#4, 0x7#4, nib0 imm, 0x0#4⟩]
  | .bistImmReg imm rd => [⟨0x6#4, 0x7#4, nib1 imm, rd.nib⟩]
  | .bistImmInd imm erd => [⟨0x7#4, 0xD#4, nib0 erd, 0x0#4⟩, ⟨0x6#4, 0x7#4, nib1 imm, 0x0#4⟩]
  | .bistImmAbs8 imm abs => [⟨0x7#4, 0xF#4, nibHi abs, nibLo abs⟩, ⟨0x6#4, 0x7#4, nib1 imm, 0x0#4⟩]
  | .braD8 disp => [⟨0x4#4, 0x0#4, nibHi disp, nibLo disp⟩]
  | .brnD8 disp => [⟨0x4#4, 0x1#4, nibHi disp, nibLo disp⟩]
  | .bhiD8 disp => [⟨0x4#4, 0x2#4, nibHi disp, nibLo disp⟩]
  | .blsD8 disp => [⟨0x4#4, 0x3#4, nibHi disp, nibLo disp⟩]
  | .bccD8 disp => [⟨0x4#4, 0x4#4, nibHi disp, nibLo disp⟩]
  | .bcsD8 disp => [⟨0x4#4, 0x5#4, nibHi disp, nibLo disp⟩]
  | .bneD8 disp => [⟨0x4#4, 0x6#4, nibHi disp, nibLo disp⟩]
  | .beqD8 disp => [⟨0x4#4, 0x7#4, nibHi disp, nibLo disp⟩]
  | .bvcD8 disp => [⟨0x4#4, 0x8#4, nibHi disp, nibLo disp⟩]
  | .bvsD8 disp => [⟨0x4#4, 0x9#4, nibHi disp, nibLo disp⟩]
  | .bplD8 disp => [⟨0x4#4, 0xA#4, nibHi disp, nibLo disp⟩]
  | .bmiD8 disp => [⟨0x4#4, 0xB#4, nibHi disp, nibLo disp⟩]
  | .bgeD8 disp => [⟨0x4#4, 0xC#4, nibHi disp, nibLo disp⟩]
  | .bltD8 disp => [⟨0x4#4, 0xD#4, nibHi disp, nibLo disp⟩]
  | .bgtD8 disp => [⟨0x4#4, 0xE#4, nibHi disp, nibLo disp⟩]
  | .bleD8 disp => [⟨0x4#4, 0xF#4, nibHi disp, nibLo disp⟩]
  | .braD16 disp => [⟨0x5#4, 0x8#4, 0x0#4, 0x0#4⟩, .ofWord disp]
  | .brnD16 disp => [⟨0x5#4, 0x8#4, 0x1#4, 0x0#4⟩, .ofWord disp]
  | .bhiD16 disp => [⟨0x5#4, 0x8#4, 0x2#4, 0x0#4⟩, .ofWord disp]
  | .blsD16 disp => [⟨0x5#4, 0x8#4, 0x3#4, 0x0#4⟩, .ofWord disp]
  | .bccD16 disp => [⟨0x5#4, 0x8#4, 0x4#4, 0x0#4⟩, .ofWord disp]
  | .bcsD16 disp => [⟨0x5#4, 0x8#4, 0x5#4, 0x0#4⟩, .ofWord disp]
  | .bneD16 disp => [⟨0x5#4, 0x8#4, 0x6#4, 0x0#4⟩, .ofWord disp]
  | .beqD16 disp => [⟨0x5#4, 0x8#4, 0x7#4, 0x0#4⟩, .ofWord disp]
  | .bvcD16 disp => [⟨0x5#4, 0x8#4, 0x8#4, 0x0#4⟩, .ofWord disp]
  | .bvsD16 disp => [⟨0x5#4, 0x8#4, 0x9#4, 0x0#4⟩, .ofWord disp]
  | .bplD16 disp => [⟨0x5#4, 0x8#4, 0xA#4, 0x0#4⟩, .ofWord disp]
  | .bmiD16 disp => [⟨0x5#4, 0x8#4, 0xB#4, 0x0#4⟩, .ofWord disp]
  | .bgeD16 disp => [⟨0x5#4, 0x8#4, 0xC#4, 0x0#4⟩, .ofWord disp]
  | .bltD16 disp => [⟨0x5#4, 0x8#4, 0xD#4, 0x0#4⟩, .ofWord disp]
  | .bgtD16 disp => [⟨0x5#4, 0x8#4, 0xE#4, 0x0#4⟩, .ofWord disp]
  | .bleD16 disp => [⟨0x5#4, 0x8#4, 0xF#4, 0x0#4⟩, .ofWord disp]
  | .bsrD8 disp => [⟨0x5#4, 0x5#4, nibHi disp, nibLo disp⟩]
  | .bsrD16 disp => [⟨0x5#4, 0xC#4, 0x0#4, 0x0#4⟩, .ofWord disp]
  | .jmpInd ern => [⟨0x5#4, 0x9#4, nib0 ern, 0x0#4⟩]
  | .jmpAbs24 abs => [⟨0x5#4, 0xA#4, nibHi (addrTop abs), nibLo (addrTop abs)⟩, .ofWord (addrLow abs)]
  | .jmpMemInd abs => [⟨0x5#4, 0xB#4, nibHi abs, nibLo abs⟩]
  | .jsrInd ern => [⟨0x5#4, 0xD#4, nib0 ern, 0x0#4⟩]
  | .jsrAbs24 abs => [⟨0x5#4, 0xE#4, nibHi (addrTop abs), nibLo (addrTop abs)⟩, .ofWord (addrLow abs)]
  | .jsrMemInd abs => [⟨0x5#4, 0xF#4, nibHi abs, nibLo abs⟩]
  | .rts => [⟨0x5#4, 0x4#4, 0x7#4, 0x0#4⟩]
  | .trapa imm => [⟨0x5#4, 0x7#4, nibTrap imm, 0x0#4⟩]
  | .rte => [⟨0x5#4, 0x6#4, 0x7#4, 0x0#4⟩]
  | .sleep => [⟨0x0#4, 0x1#4, 0x8#4, 0x0#4⟩]
  | .ldcBImm imm => [⟨0x0#4, 0x7#4, nibHi imm, nibLo imm⟩]
  | .ldcBReg rs => [⟨0x0#4, 0x3#4, 0x0#4, rs.nib⟩]
  | .ldcWLoadInd ers => [⟨0x0#4, 0x1#4, 0x4#4, 0x0#4⟩, ⟨0x6#4, 0x9#4, nib0 ers, 0x0#4⟩]
  | .ldcWLoadDisp16 disp ers => [⟨0x0#4, 0x1#4, 0x4#4, 0x0#4⟩, ⟨0x6#4, 0xF#4, nib0 ers, 0x0#4⟩, .ofWord disp]
  | .ldcWLoadDisp24 disp ers => [⟨0x0#4, 0x1#4, 0x4#4, 0x0#4⟩, ⟨0x7#4, 0x8#4, nib0 ers, 0x0#4⟩, ⟨0x6#4, 0xB#4, 0x2#4, 0x0#4⟩, ⟨0x0#4, 0x0#4, nibHi (addrTop disp), nibLo (addrTop disp)⟩, .ofWord (addrLow disp)]
  | .ldcWLoadPostInc ers => [⟨0x0#4, 0x1#4, 0x4#4, 0x0#4⟩, ⟨0x6#4, 0xD#4, nib0 ers, 0x0#4⟩]
  | .ldcWLoadAbs16 abs => [⟨0x0#4, 0x1#4, 0x4#4, 0x0#4⟩, ⟨0x6#4, 0xB#4, 0x0#4, 0x0#4⟩, .ofWord abs]
  | .ldcWLoadAbs24 abs => [⟨0x0#4, 0x1#4, 0x4#4, 0x0#4⟩, ⟨0x6#4, 0xB#4, 0x2#4, 0x0#4⟩, ⟨0x0#4, 0x0#4, nibHi (addrTop abs), nibLo (addrTop abs)⟩, .ofWord (addrLow abs)]
  | .stcBReg rd => [⟨0x0#4, 0x2#4, 0x0#4, rd.nib⟩]
  | .stcWStoreInd erd => [⟨0x0#4, 0x1#4, 0x4#4, 0x0#4⟩, ⟨0x6#4, 0x9#4, nib1 erd, 0x0#4⟩]
  | .stcWStoreDisp16 disp erd => [⟨0x0#4, 0x1#4, 0x4#4, 0x0#4⟩, ⟨0x6#4, 0xF#4, nib1 erd, 0x0#4⟩, .ofWord disp]
  | .stcWStoreDisp24 disp erd => [⟨0x0#4, 0x1#4, 0x4#4, 0x0#4⟩, ⟨0x7#4, 0x8#4, nib0 erd, 0x0#4⟩, ⟨0x6#4, 0xB#4, 0xA#4, 0x0#4⟩, ⟨0x0#4, 0x0#4, nibHi (addrTop disp), nibLo (addrTop disp)⟩, .ofWord (addrLow disp)]
  | .stcWStorePreDec erd => [⟨0x0#4, 0x1#4, 0x4#4, 0x0#4⟩, ⟨0x6#4, 0xD#4, nib1 erd, 0x0#4⟩]
  | .stcWStoreAbs16 abs => [⟨0x0#4, 0x1#4, 0x4#4, 0x0#4⟩, ⟨0x6#4, 0xB#4, 0x8#4, 0x0#4⟩, .ofWord abs]
  | .stcWStoreAbs24 abs => [⟨0x0#4, 0x1#4, 0x4#4, 0x0#4⟩, ⟨0x6#4, 0xB#4, 0xA#4, 0x0#4⟩, ⟨0x0#4, 0x0#4, nibHi (addrTop abs), nibLo (addrTop abs)⟩, .ofWord (addrLow abs)]
  | .andc imm => [⟨0x0#4, 0x6#4, nibHi imm, nibLo imm⟩]
  | .orc imm => [⟨0x0#4, 0x4#4, nibHi imm, nibLo imm⟩]
  | .xorc imm => [⟨0x0#4, 0x5#4, nibHi imm, nibLo imm⟩]
  | .nop => [⟨0x0#4, 0x0#4, 0x0#4, 0x0#4⟩]
  | .eepmovB => [⟨0x7#4, 0xB#4, 0x5#4, 0xC#4⟩, ⟨0x5#4, 0x9#4, 0x8#4, 0xF#4⟩]
  | .eepmovW => [⟨0x7#4, 0xB#4, 0xD#4, 0x4#4⟩, ⟨0x5#4, 0x9#4, 0x8#4, 0xF#4⟩]

/-- The words of an instruction, the first word first. -/
def encode (i : Instr) : List Word := (encodeQuads i).map Quad.toWord

/-- The length of an instruction in bytes (R101). -/
def Instr.length (i : Instr) : Nat := 2 * (encodeQuads i).length

/-! ### The host's question: one row of spec/opcode_table.json -/

/-- The instruction bits of the table as bytes in memory order. The table numbers an instruction as ONE big-endian
number (R119): its first byte is the most significant of `nbits`, bit 0 is the last byte's least significant bit.
Log 29. -/
def tableBytes (nbits w : Nat) : List Byte :=
  (List.range (nbits / 8)).map fun k => BitVec.ofNat 8 (w >>> (nbits - 8 * (k + 1)))

/-- Bytes in memory order as instruction words: of each pair the first byte is the high one (R65). An odd byte at the end
is followed by 0. -/
def wordsOfBytes : List Byte → List Word
  | [] => []
  | [x] => [x ++ 0#8]
  | x :: y :: rest => (x ++ y) :: wordsOfBytes rest

noncomputable section

/-- The instruction the decoder reads from the bits `w` of one table row, the bytes after them being zero up to the
longest instruction, 10 bytes (R101). -/
def decodeTableWord (nbits w : Nat) : Option Instr :=
  match decode (wordsOfBytes (tableBytes nbits w ++ List.replicate 10 0#8)) with
  | .instr i => some i
  | .incomplete => none
  | .undefinedCode => none

end

end Sys2Proof
end

