-- ==== Sys2Proof/Machine/Fetch.lean ====
section
/-! DEFINITION. Fetching an instruction word by word (R65, R113), and the prefetch (R43.5, R80, R543, D14). -/

namespace Sys2Proof.Machine

/-- The values the prefetch may have kept of a byte that a store has changed since. -/
def State.staleBytes (s : State) (a : Addr) : List Byte :=
  (s.stale.filter fun x => x.1 == a.toNat).map fun x => x.2

/-- Fetch a byte of code. Where a store changed it after it may have been prefetched, the byte fetched is the new value or
one of the old ones, a free choice (R80, D14; log 18). -/
def State.fetchByte (s : State) (a : Addr) : Byte × State :=
  let b := s.readPhys a
  match b.2.staleBytes a with
  | [] => b
  | olds =>
    let x := b.2.draw
    ((b.1 :: olds).getD (x.1.toNat % (olds.length + 1)) b.1, x.2)

/-- Fetch a word of code, bit 0 of the address regarded as 0 (R30, R62, R65). -/
def State.fetchWord (s : State) (a : Addr) : Word × State :=
  let b := evenAddr (s.am a)
  let hi := s.fetchByte b
  let lo := hi.2.fetchByte (s.am (b + 1))
  (hi.1 ++ lo.1, lo.2)

/-- What fetching and decoding answers. -/
inductive Fetched where
  /-- An instruction, with the state after the fetch. -/
  | instr (i : Instr) (s : State)
  /-- An undefined code (R114). -/
  | undefinedCode

noncomputable section

/-- Fetch words at `a` until they decode, at most `fuel` more; `ws` are the words fetched so far (R113). -/
def State.fetchFrom (s : State) (a : Addr) (ws : List Word) : Nat → Fetched
  | 0 => .undefinedCode
  | fuel + 1 =>
    let w := s.fetchWord a
    match decode (ws ++ [w.1]) with
    | .instr i => .instr i w.2
    | .incomplete => w.2.fetchFrom (s.am (a + 2)) (ws ++ [w.1]) fuel
    | .undefinedCode => .undefinedCode

/-- Fetch and decode the instruction at PC: at most five words (R101). -/
def State.fetchInstr (s : State) : Fetched := s.fetchFrom s.pc [] 5

end

/-- The four bytes at an address: what may have been prefetched (R80). -/
def State.prefetchWindow (s : State) (a : Addr) : List Addr := [s.am a, s.am (a + 1), s.am (a + 2), s.am (a + 3)]

/-- The stale bytes that lie in the window at the present PC. -/
def State.staleAhead (s : State) : List Host.Cell :=
  s.stale.filter fun x => (s.prefetchWindow s.pc).any fun a => x.1 == a.toNat

/-- The bytes of the window at the PC of `t` that `t` holds otherwise than `s` did, with their values in `s`. Of a byte that
another master and then the CPU write within one instruction, only the value at its start and the last one can be fetched,
never one in between (DESIGN CHOICE, log 18: R80, R543 and D14 speak of the CPU's own store). -/
def changedAhead (s t : State) : List Host.Cell :=
  ((t.prefetchWindow t.pc).filter fun a => Memory.lookup s.mem a.toNat != Memory.lookup t.mem a.toNat).map
    fun a => (a.toNat, s.peek a)

/-- Whether an instruction that starts in `s` transfers control, so that the word prefetched at NEXT is discarded and the
target is fetched anew (R400 (e), R543): a Bcc whose condition holds (R401), and every jump, call, return and trap. -/
def transfersControl (i : Instr) (s : State) : Bool :=
  match i with
  | .braD8 _ | .braD16 _ => branchCond 0x0#4 s.ccr
  | .brnD8 _ | .brnD16 _ => branchCond 0x1#4 s.ccr
  | .bhiD8 _ | .bhiD16 _ => branchCond 0x2#4 s.ccr
  | .blsD8 _ | .blsD16 _ => branchCond 0x3#4 s.ccr
  | .bccD8 _ | .bccD16 _ => branchCond 0x4#4 s.ccr
  | .bcsD8 _ | .bcsD16 _ => branchCond 0x5#4 s.ccr
  | .bneD8 _ | .bneD16 _ => branchCond 0x6#4 s.ccr
  | .beqD8 _ | .beqD16 _ => branchCond 0x7#4 s.ccr
  | .bvcD8 _ | .bvcD16 _ => branchCond 0x8#4 s.ccr
  | .bvsD8 _ | .bvsD16 _ => branchCond 0x9#4 s.ccr
  | .bplD8 _ | .bplD16 _ => branchCond 0xA#4 s.ccr
  | .bmiD8 _ | .bmiD16 _ => branchCond 0xB#4 s.ccr
  | .bgeD8 _ | .bgeD16 _ => branchCond 0xC#4 s.ccr
  | .bltD8 _ | .bltD16 _ => branchCond 0xD#4 s.ccr
  | .bgtD8 _ | .bgtD16 _ => branchCond 0xE#4 s.ccr
  | .bleD8 _ | .bleD16 _ => branchCond 0xF#4 s.ccr
  | .jmpInd _ | .jmpAbs24 _ | .jmpMemInd _ | .bsrD8 _ | .bsrD16 _ | .jsrInd _ | .jsrAbs24 _ | .jsrMemInd _ => true
  | .rts | .rte | .trapa _ => true
  | _ => false

/-- Whether the target's first word is fetched before the instruction writes its stack frame (R404, table 2.8). -/
def pushesAfterFetch : Instr → Bool
  | .bsrD8 _ => true
  | .bsrD16 _ => true
  | .jsrInd _ => true
  | .jsrAbs24 _ => true
  | _ => false

/-- Whether an instruction fetches the following word only after its last write (R474c). -/
def fetchesLast : Instr → Bool
  | .eepmovB => true
  | .eepmovW => true
  | _ => false

/-- The prefetch after instruction `i` took `s` to `t` (R80, R400 (e), R404, R474c, R543; log 18): in straight flow the
stale bytes ahead stay and the bytes the instruction changed join them; a transfer of control refetches, wherever its
target lies. -/
def prefetchAfter (i : Instr) (s t : State) : State :=
  let taken := transfersControl i s
  let kept := if taken then [] else t.staleAhead
  let changed :=
    if fetchesLast i then []
    else if !taken || pushesAfterFetch i then changedAhead s t
    else []
  { t with stale := changed ++ kept }

end Sys2Proof.Machine
end

