-- ==== Sys2Proof/Machine/Interrupt.lean ====
section
/-! DEFINITION. Interrupt acceptance and entry (60_exceptions.md R489 to R492, R498 to R501). -/

namespace Sys2Proof.Machine

/-- `Accept(r)`: NMI always; otherwise I = 0, or, when UI is a mask bit and I = 1, UI = 0 and the LSI lets the request
pass (R490, D20). -/
def State.accepts (s : State) (r : Request) : Bool :=
  r.isNMI || !s.flag .i || (s.uiIsMask && !s.flag .ui && r.passesI)

/-- The request taken among those that hold `ok`: NMI ranks above the others, the rest keep the LSI's order (R498,
D20). -/
def bestRequest (l : List Request) (ok : Request → Bool) : Option Request :=
  match l.find? fun r => r.isNMI && ok r with
  | some r => some r
  | none => l.find? ok

/-- The number of a vector-table entry: its address divided by the entry size (R483). In normal mode the address is first
cut to 16 bits, as the vector fetch cuts it (R66), so that an address above H'FFFF counts as the entry that is read
(DESIGN CHOICE, log 26: the spec bounds the vector area but does not say what such an address means). -/
def State.vectorNumber (s : State) (vec : Addr) : Nat :=
  match s.mode with
  | .normal => (s.am vec).toNat / 2
  | .advanced => vec.toNat / 4

/-- Whether an interrupt may use a vector address: even, not the reset entry, not reserved for system use, not a TRAPA
entry (R483, D3, U7; log 26). -/
def State.vectorAllowed (s : State) (vec : Addr) : Bool :=
  !vec.getLsbD 0 && decide (3 ≤ s.vectorNumber vec) &&
    !(decide (8 ≤ s.vectorNumber vec) && decide (s.vectorNumber vec ≤ 11))

/-- `IntEnv.acknowledge`: that occurrence is no longer presented, nor its entry due (R472, R492, D3). -/
def State.acknowledge (s : State) (r : Request) : State := { s with pending := s.pending.erase r, nmiDue := none }

/-- `InterruptEntry(r)`: the address of the next instruction is saved (R492). -/
def State.interruptEntry (s : State) (r : Request) : Host.Outcome State Fault Refusal :=
  if s.vectorAllowed r.vector then .next ((s.exceptionEntry s.pc r.vector).acknowledge r)
  else .refused .illegalVector

/-- Whether a request ends the present power-down state (R500, R501, D19). -/
def State.wakes (s : State) (r : Request) : Bool :=
  s.accepts r && (s.proc != .softwareStandby || r.wakesStandby)

end Sys2Proof.Machine
end

