-- ==== Sys2Proof/Machine/Cycle.lean ====
section
/-! DEFINITION. The step function's parts, in the order of R509: the environment's inputs, the pins, the processing state,
interrupt detection, and one instruction. -/

namespace Sys2Proof.Machine

/-- Take the environment's inputs for this boundary; when the schedule is empty nothing changes (R6 `IntEnv`, log 19). -/
def State.sample (s : State) : State × List Host.Cell :=
  match s.env with
  | [] => (s, [])
  | t :: ts =>
    ({ s with
        env := ts
        resLow := t.resLow
        stbyLow := t.stbyLow
        busReq := t.busReq
        busScript := t.busScript
        pending := t.present.getD s.pending
        lateNmi := t.lateNmi
        ssby := t.ssby.getD s.ssby }, t.busWrites)

/-- The end of a step: an NMI that arrived during it is now presented, and other masters' writes meant for its bus cycles
are over (D23, log 20, log 21). -/
def State.settle (s : State) : State :=
  { s with
    pending := s.pending ++ (s.lateNmi.map fun x => x.2).toList
    lateNmi := none
    busScript := [] }

/-- RES low: the reset state, I = 1, the prefetch empty; whatever was going on is abandoned (R498, R530, R532). -/
def State.enterReset (s : State) : State := { s.setFlag .i true with proc := .reset, stale := [], nmiDue := none }

/-- STBY low: hardware standby mode (R502). The peripheral modules enter their reset state: the model holds nothing of them
(log 7). All of memory is held, on-chip RAM by R502, memory outside the LSI by the model's choice (log 22). -/
def State.enterHardwareStandby (s : State) : State := { s with proc := .hardwareStandby, stale := [], nmiDue := none }

/-- The bus is released: other masters write; a byte ahead of PC that they change may have been prefetched (R503, D13,
log 21). -/
def State.releaseBus (s : State) (ws : List Host.Cell) : State :=
  let t := s.masterWrites ws
  { t with proc := .busReleased, stale := changedAhead s t ++ t.stale }

noncomputable section

/-- Fetch, decode and execute one instruction at PC (R509). -/
def State.runInstr (s : State) : Host.Outcome State Fault Refusal :=
  match s.fetchInstr with
  | .undefinedCode => .refused .undefinedInstruction
  | .instr i s1 =>
    match exec i s1 with
    | .next t => .next (prefetchAfter i s1 t)
    | .fault f => .fault f
    | .refused r => .refused r

/-- Program execution: the NMI that cut an EEPMOV.W is entered first, whatever the environment now presents (R472, D23); the
boundary after LDC, ANDC, ORC, XORC or reset detects nothing; otherwise an accepted interrupt is entered instead of the
instruction (R489, R491, R492, R509). -/
def State.runProgram (s : State) : Host.Outcome State Fault Refusal :=
  match s.nmiDue with
  | some r => s.interruptEntry r
  | none =>
    if s.inhibitInt then ({ s with inhibitInt := false } : State).runInstr
    else
      match bestRequest s.pending s.accepts with
      | some r => s.interruptEntry r
      | none => s.runInstr

/-- A power-down state ends with an accepted request that may end it; otherwise the CPU stays (R500, R501). -/
def State.runPowerDown (s : State) : Host.Outcome State Fault Refusal :=
  match bestRequest s.pending s.wakes with
  | some r => s.interruptEntry r
  | none => .next s

/-- The step on sampled inputs; `ws` are the writes of other masters while they have the bus (R480, R509). -/
def State.react (s : State) (ws : List Host.Cell) : Host.Outcome State Fault Refusal :=
  if s.stbyLow then .next s.enterHardwareStandby
  else if s.proc = .hardwareStandby then .next (if s.resLow then s.enterReset else s)
  else if s.resLow then .next s.enterReset
  else
    match s.proc with
    | .hardwareStandby => .next s
    | .reset => .next s.resetEntry
    | .sleep => s.runPowerDown
    | .softwareStandby => s.runPowerDown
    | .busReleased => .next (if s.busReq then s.releaseBus ws else { s with proc := .programExecution })
    | .programExecution => if s.busReq then .next (s.releaseBus ws) else s.runProgram

/-- One step: sample, react, settle. -/
def State.cycle (s : State) : Host.Outcome State Fault Refusal :=
  match s.sample.1.react s.sample.2 with
  | .next t => .next t.settle
  | .fault f => .fault f
  | .refused r => .refused r

end

/-! ### Placing an instruction (log 3) -/

/-- Write bytes from an address on, without regard to the memory map: the program is put there from outside. -/
def State.placeBytes (s : State) (a : Addr) : List Byte → State
  | [] => s
  | b :: bs =>
    ({ s with mem := Memory.insert s.mem (s.am a).toNat b } : State).placeBytes (a + 1) bs

/-- The bytes of a table row at PC, zeros after them up to ten bytes (R101). -/
def State.placeTableWord (s : State) (nbits w : Nat) : State :=
  s.placeBytes (evenAddr (s.am s.pc)) ((tableBytes nbits w ++ List.replicate 10 0#8).take (max 10 (nbits / 8)))

end Sys2Proof.Machine
end

