-- ==== Sys2Proof/Machine/Step.lean ====
section
/-! DEFINITION. The step of the machine, and the host's way to place one instruction where it is fetched. -/

namespace Sys2Proof.Machine

noncomputable section

/-- One step of the machine (R509). -/
def step (s : State) : Host.Outcome State Fault Refusal := s.cycle

end

/-- `s` with the instruction of the bits `w` where the next step fetches: at PC (log 3, log 29). -/
def State.withFetchWord (s : State) (nbits w : Nat) : State := s.placeTableWord nbits w

end Sys2Proof.Machine
end

