-- ==== Sys2Proof/Machine/Timing.lean ====
section
/-! DEFINITION. Execution states (70_reset_and_hazards.md R545 to R547, R550): how many bus cycles of each kind an
instruction takes and how many states each cycle takes. Time is not architecturally visible (R505, D27): no step reads
these functions (log 28). -/

namespace Sys2Proof.Machine

/-- The kinds of cycle of R545. -/
inductive CycleKind where
  | instructionFetch
  | branchAddressRead
  | stackOperation
  | byteDataAccess
  | wordDataAccess
  | internalOperation
  deriving DecidableEq, Repr

/-- The columns I, J, K, L, M, N of R547. -/
structure Cycles where
  instructionFetch : Nat
  branchAddressRead : Nat
  stackOperation : Nat
  byteDataAccess : Nat
  wordDataAccess : Nat
  internalOperation : Nat
  deriving DecidableEq, Repr

/-- States of one cycle on a bus target with `m` wait states (R545). Nothing answers at an absent address, so the table
has no column for it. -/
def cycleStates (k : CycleKind) (c : BusClass) (m : Nat) : Option Nat :=
  match k, c with
  | _, .absent => none
  | .internalOperation, _ => some 1
  | _, .onChipMemory => some 2
  | .byteDataAccess, .peripheral8 => some 3
  | _, .peripheral8 => some 6
  | _, .peripheral16 => some 3
  | .byteDataAccess, .external8TwoState => some 2
  | _, .external8TwoState => some 4
  | .byteDataAccess, .external8ThreeState => some (3 + m)
  | _, .external8ThreeState => some (6 + 2 * m)
  | _, .external16TwoState => some 2
  | _, .external16ThreeState => some (3 + m)

/-- The factor of the two-line rows: 1 in normal mode, 2 in advanced mode (R547). -/
def modeCycles : Mode → Nat
  | .normal => 1
  | .advanced => 2

/-- The cycles of an instruction (R547); `n` is the byte count EEPMOV starts with. The data access of MOVFPE and MOVTPE
is one byte access whose states the LSI's manual gives (R547 note *2). -/
def instrCycles (i : Instr) (mode : Mode) (n : Nat) : Cycles :=
  let k := modeCycles mode
  match i with
  | .movBImm .. | .movBReg .. | .movWReg .. | .movLReg .. | .addBImm .. | .addBReg .. | .addWReg ..
  | .addLReg .. | .adds1 .. | .adds2 .. | .adds4 .. | .addxImm .. | .addxReg .. | .cmpBImm .. | .cmpBReg ..
  | .cmpWReg .. | .cmpLReg .. | .daa .. | .das .. | .decB .. | .decW1 .. | .decW2 .. | .decL1 .. | .decL2 ..
  | .extsW .. | .extsL .. | .extuW .. | .extuL .. | .incB .. | .incW1 .. | .incW2 .. | .incL1 .. | .incL2 ..
  | .negB .. | .negW .. | .negL .. | .subBReg .. | .subWReg .. | .subLReg .. | .subs1 .. | .subs2 ..
  | .subs4 .. | .subxImm .. | .subxReg .. | .andBImm .. | .andBReg .. | .andWReg .. | .orBImm .. | .orBReg ..
  | .orWReg .. | .xorBImm .. | .xorBReg .. | .xorWReg .. | .notB .. | .notW .. | .notL .. | .shalB ..
  | .shalW .. | .shalL .. | .sharB .. | .sharW .. | .sharL .. | .shllB .. | .shllW .. | .shllL .. | .shlrB ..
  | .shlrW .. | .shlrL .. | .rotlB .. | .rotlW .. | .rotlL .. | .rotrB .. | .rotrW .. | .rotrL .. | .rotxlB ..
  | .rotxlW .. | .rotxlL .. | .rotxrB .. | .rotxrW .. | .rotxrL .. | .bsetImmReg .. | .bsetRegReg ..
  | .bclrImmReg .. | .bclrRegReg .. | .bnotImmReg .. | .bnotRegReg .. | .btstImmReg .. | .btstRegReg ..
  | .bandImmReg .. | .biandImmReg .. | .borImmReg .. | .biorImmReg .. | .bxorImmReg .. | .bixorImmReg ..
  | .bldImmReg .. | .bildImmReg .. | .bstImmReg .. | .bistImmReg .. | .sleep | .ldcBImm .. | .ldcBReg ..
  | .stcBReg .. | .andc .. | .orc .. | .xorc .. | .nop => ⟨1, 0, 0, 0, 0, 0⟩
  | .movBLoadInd .. | .movBLoadAbs8 .. | .movBStoreInd .. | .movBStoreAbs8 .. => ⟨1, 0, 0, 1, 0, 0⟩
  | .movBLoadDisp16 .. | .movBLoadAbs16 .. | .movBStoreDisp16 .. | .movBStoreAbs16 .. | .movfpe .. | .movtpe ..
  | .btstImmInd .. | .btstImmAbs8 .. | .btstRegInd .. | .btstRegAbs8 .. | .bandImmInd .. | .bandImmAbs8 ..
  | .biandImmInd .. | .biandImmAbs8 .. | .borImmInd .. | .borImmAbs8 .. | .biorImmInd .. | .biorImmAbs8 ..
  | .bxorImmInd .. | .bxorImmAbs8 .. | .bixorImmInd .. | .bixorImmAbs8 .. | .bldImmInd .. | .bldImmAbs8 ..
  | .bildImmInd .. | .bildImmAbs8 .. => ⟨2, 0, 0, 1, 0, 0⟩
  | .movBLoadDisp24 .. | .movBStoreDisp24 .. => ⟨4, 0, 0, 1, 0, 0⟩
  | .movBLoadPostInc .. | .movBStorePreDec .. => ⟨1, 0, 0, 1, 0, 2⟩
  | .movBLoadAbs24 .. | .movBStoreAbs24 .. => ⟨3, 0, 0, 1, 0, 0⟩
  | .movWImm .. | .addWImm .. | .cmpWImm .. | .subWImm .. | .andWImm .. | .andLReg .. | .orWImm .. | .orLReg ..
  | .xorWImm .. | .xorLReg .. | .braD8 .. | .brnD8 .. | .bhiD8 .. | .blsD8 .. | .bccD8 .. | .bcsD8 ..
  | .bneD8 .. | .beqD8 .. | .bvcD8 .. | .bvsD8 .. | .bplD8 .. | .bmiD8 .. | .bgeD8 .. | .bltD8 .. | .bgtD8 ..
  | .bleD8 .. | .jmpInd .. => ⟨2, 0, 0, 0, 0, 0⟩
  | .movWLoadInd .. | .movWStoreInd .. => ⟨1, 0, 0, 0, 1, 0⟩
  | .movWLoadDisp16 .. | .movWLoadAbs16 .. | .movWStoreDisp16 .. | .movWStoreAbs16 .. | .ldcWLoadInd ..
  | .stcWStoreInd .. => ⟨2, 0, 0, 0, 1, 0⟩
  | .movWLoadDisp24 .. | .movWStoreDisp24 .. | .ldcWLoadAbs24 .. | .stcWStoreAbs24 .. => ⟨4, 0, 0, 0, 1, 0⟩
  | .movWLoadPostInc .. | .movWStorePreDec .. | .pushW .. | .popW .. => ⟨1, 0, 0, 0, 1, 2⟩
  | .movWLoadAbs24 .. | .movWStoreAbs24 .. | .ldcWLoadDisp16 .. | .ldcWLoadAbs16 .. | .stcWStoreDisp16 ..
  | .stcWStoreAbs16 .. => ⟨3, 0, 0, 0, 1, 0⟩
  | .movLImm .. | .addLImm .. | .cmpLImm .. | .subLImm .. | .andLImm .. | .orLImm .. | .xorLImm .. => ⟨3, 0, 0, 0, 0, 0⟩
  | .movLLoadInd .. | .movLStoreInd .. => ⟨2, 0, 0, 0, 2, 0⟩
  | .movLLoadDisp16 .. | .movLLoadAbs16 .. | .movLStoreDisp16 .. | .movLStoreAbs16 .. => ⟨3, 0, 0, 0, 2, 0⟩
  | .movLLoadDisp24 .. | .movLStoreDisp24 .. => ⟨5, 0, 0, 0, 2, 0⟩
  | .movLLoadPostInc .. | .movLStorePreDec .. | .pushL .. | .popL .. => ⟨2, 0, 0, 0, 2, 2⟩
  | .movLLoadAbs24 .. | .movLStoreAbs24 .. => ⟨4, 0, 0, 0, 2, 0⟩
  | .divxsBReg .. | .mulxsBReg .. => ⟨2, 0, 0, 0, 0, 12⟩
  | .divxsWReg .. | .mulxsWReg .. => ⟨2, 0, 0, 0, 0, 20⟩
  | .divxuBReg .. | .mulxuBReg .. => ⟨1, 0, 0, 0, 0, 12⟩
  | .divxuWReg .. | .mulxuWReg .. => ⟨1, 0, 0, 0, 0, 20⟩
  | .bsetImmInd .. | .bsetImmAbs8 .. | .bsetRegInd .. | .bsetRegAbs8 .. | .bclrImmInd .. | .bclrImmAbs8 ..
  | .bclrRegInd .. | .bclrRegAbs8 .. | .bnotImmInd .. | .bnotImmAbs8 .. | .bnotRegInd .. | .bnotRegAbs8 ..
  | .bstImmInd .. | .bstImmAbs8 .. | .bistImmInd .. | .bistImmAbs8 .. => ⟨2, 0, 0, 2, 0, 0⟩
  | .braD16 .. | .brnD16 .. | .bhiD16 .. | .blsD16 .. | .bccD16 .. | .bcsD16 .. | .bneD16 .. | .beqD16 ..
  | .bvcD16 .. | .bvsD16 .. | .bplD16 .. | .bmiD16 .. | .bgeD16 .. | .bltD16 .. | .bgtD16 .. | .bleD16 ..
  | .jmpAbs24 .. => ⟨2, 0, 0, 0, 0, 2⟩
  | .bsrD8 .. | .jsrInd .. => ⟨2, 0, k, 0, 0, 0⟩
  | .bsrD16 .. | .jsrAbs24 .. | .rts => ⟨2, 0, k, 0, 0, 2⟩
  | .jmpMemInd .. => ⟨2, k, 0, 0, 0, 2⟩
  | .jsrMemInd .. => ⟨2, k, k, 0, 0, 0⟩
  | .trapa .. => ⟨2, k, 2, 0, 0, 4⟩
  | .rte => ⟨2, 0, 2, 0, 0, 2⟩
  | .ldcWLoadDisp24 .. | .stcWStoreDisp24 .. => ⟨5, 0, 0, 0, 1, 0⟩
  | .ldcWLoadPostInc .. | .stcWStorePreDec .. => ⟨2, 0, 0, 0, 1, 2⟩
  | .eepmovB | .eepmovW => ⟨2, 0, 0, 2 * n + 2, 0, 0⟩

/-- `states = I*SI + J*SJ + K*SK + L*SL + M*SM + N*SN` (R545), each `S` the states of one cycle of that kind. -/
def Cycles.states (c : Cycles) (si sj sk sl sm sn : Nat) : Nat :=
  c.instructionFetch * si + c.branchAddressRead * sj + c.stackOperation * sk + c.byteDataAccess * sl +
    c.wordDataAccess * sm + c.internalOperation * sn

/-- The states when code, stack and operands are all in on-chip memory, as printed on the instruction pages (R545). -/
def Cycles.onChipStates (c : Cycles) : Nat := c.states 2 2 2 2 2 1

end Sys2Proof.Machine
end

