-- ==== Sys2Proof/Safety.lean ====
section
/-! DEFINITION. The words claims are stated in: the invariant of the machine, what it means that an instruction completes,
what it leaves unchanged, and what a read or a store of memory does when no other bus master interferes. -/

namespace Sys2Proof.Machine

/-! ### The invariant -/

/-- The invariant every step keeps: PC is even and within the address space of the mode (R28, R30, R42); memory is in its
canonical form (the model's choice, log 5), and stale prefetched bytes lie only in the four bytes at PC (the model's choice,
log 18, after R80 and R543). -/
structure State.Inv (s : State) : Prop where
  memCanonical : Memory.wf s.mem
  pcEven : s.pc.getLsbD 0 = false
  pcInMode : s.mode = .normal → s.pc.toNat < 2 ^ 16
  staleInWindow : ∀ x ∈ s.stale, ∃ a ∈ s.prefetchWindow s.pc, a.toNat = x.1

/-! ### Completion and frames -/

/-- The instruction completes: `exec` answers a next state, and `p` holds of it. -/
def Answers (i : Instr) (s : State) (p : State → Prop) : Prop := ∃ t, exec i s = .next t ∧ p t

/-- What no instruction changes: the parameters and the inputs of the environment. -/
structure SameOutside (s t : State) : Prop where
  pending : t.pending = s.pending
  lateNmi : t.lateNmi = s.lateNmi
  resLow : t.resLow = s.resLow
  stbyLow : t.stbyLow = s.stbyLow
  busReq : t.busReq = s.busReq
  ssby : t.ssby = s.ssby
  mode : t.mode = s.mode
  uiIsMask : t.uiIsMask = s.uiIsMask
  hasEClock : t.hasEClock = s.hasEClock
  memMap : t.memMap = s.memMap
  env : t.env = s.env

/-- The processing state, the interrupt inhibition, the NMI whose entry is due and the prefetch are unchanged. -/
structure SameControl (s t : State) : Prop where
  proc : t.proc = s.proc
  inhibitInt : t.inhibitInt = s.inhibitInt
  nmiDue : t.nmiDue = s.nmiDue
  stale : t.stale = s.stale

/-- Every general register is unchanged. -/
def SameRegisters (s t : State) : Prop := ∀ n, t.er n = s.er n

/-- The state of the CPU is unchanged: registers, CCR, PC, the inhibition and the NMI whose entry is due. -/
structure SameCpu (s t : State) : Prop where
  registers : SameRegisters s t
  ccr : t.ccr = s.ccr
  pc : t.pc = s.pc
  inhibitInt : t.inhibitInt = s.inhibitInt
  nmiDue : t.nmiDue = s.nmiDue

/-- An 8-bit register holds `v`; every other 8-bit register and every En is unchanged (R21). -/
def OnlyByte (s t : State) (rd : Reg8) (v : Byte) : Prop :=
  t.reg8 rd = v ∧ (∀ r, r ≠ rd → t.reg8 r = s.reg8 r) ∧ ∀ n, t.reg16 (.e n) = s.reg16 (.e n)

/-- A 16-bit register holds `v`; every other 16-bit register is unchanged (R21). -/
def OnlyWord (s t : State) (rd : Reg16) (v : Word) : Prop :=
  t.reg16 rd = v ∧ ∀ r, r ≠ rd → t.reg16 r = s.reg16 r

/-- A 32-bit register holds `v`; every other one is unchanged. -/
def OnlyLong (s t : State) (d : ERn) (v : Long) : Prop := t.er d = v ∧ ∀ n, n ≠ d → t.er n = s.er n

/-- The listed flags take the listed values and every other bit of CCR is unchanged. -/
def FlagsBecome (s t : State) (l : List (Flag × Bool)) : Prop := ∀ f, t.flag f = (l.lookup f).getD (s.flag f)

/-- PC, the processing state, the inhibition and the prefetch after an instruction that does not transfer control: the
address of the next instruction, `i.length` bytes on (R27, R101); nothing outside the CPU changes. -/
structure Proceeds (i : Instr) (s t : State) : Prop where
  pc : t.pc = s.am (s.pc + BitVec.ofNat 24 i.length)
  control : SameControl s t
  outside : SameOutside s t

/-! ### Memory without interference -/

/-- No other bus master writes during the instruction (R69, R79). -/
def Quiet (s : State) : Prop := s.busScript = []

/-- RAM or ROM, where a read gives the content (D25). -/
def Readable (s : State) (a : Addr) : Prop := s.accessKind a = .memory ∨ s.accessKind a = .rom

/-- Every byte of memory holds what it held. Of a byte of a device this is the model's choice (DESIGN CHOICE, log 7): it holds
no state of one, while D29 lets an access change it and R501 and R502 reset the modules in standby. -/
def SameMemory (s t : State) : Prop := ∀ a, t.peek a = s.peek a

/-- The even address of a word access (R62). -/
def State.wordBase (s : State) (a : Addr) : Addr := evenAddr (s.am a)

/-- The word at an address: the byte at the even address, then the byte with bit 0 set (R60, R62). -/
def State.wordAt (s : State) (a : Addr) : Word := s.peek (s.wordBase a) ++ s.peek (s.wordBase a ||| 1#24)

/-- The longword at an address (R60). -/
def State.longAt (s : State) (a : Addr) : Long := s.wordAt a ++ s.wordAt (a + 2)

/-- Both bytes of a word are RAM or ROM. -/
def ReadableWord (s : State) (a : Addr) : Prop := Readable s (s.wordBase a) ∧ Readable s (s.wordBase a ||| 1#24)

/-- `v` is what a byte read at `ea` gives: the byte there, when no other master interferes and it is RAM or ROM; any value
otherwise (D25, D29). -/
def ByteRead (s : State) (ea : Addr) (v : Byte) : Prop := Quiet s → Readable s (s.am ea) → v = s.peek (s.am ea)

/-- `v` is what a word read at `ea` gives. -/
def WordRead (s : State) (ea : Addr) (v : Word) : Prop := Quiet s → ReadableWord s ea → v = s.wordAt ea

/-- `v` is what a longword read at `ea` gives. -/
def LongRead (s : State) (ea : Addr) (v : Long) : Prop :=
  Quiet s → ReadableWord s ea → ReadableWord s (ea + 2) → v = s.longAt ea

/-- The memory cell of a byte store at `ea`. -/
def byteCells (s : State) (ea : Addr) (v : Byte) : List (Addr × Byte) := [(s.am ea, v)]

/-- The memory cells of a word store at `ea`: high byte at the even address (R60, R62). -/
def wordCells (s : State) (ea : Addr) (v : Word) : List (Addr × Byte) :=
  [(s.wordBase ea, v.extractLsb' 8 8), (s.wordBase ea ||| 1#24, v.extractLsb' 0 8)]

/-- The memory cells of a longword store at `ea`. -/
def longCells (s : State) (ea : Addr) (v : Long) : List (Addr × Byte) :=
  wordCells s ea (v.extractLsb' 16 16) ++ wordCells s (ea + 2) (v.extractLsb' 0 16)

/-- Of the listed cells those in RAM hold the listed bytes; every byte that is neither listed nor in `free` is unchanged,
and so is every byte that is not RAM (D25; of a device it is the model's choice, log 7: it holds no state of one). -/
def Stored (s t : State) (cells : List (Addr × Byte)) (free : List Addr) : Prop :=
  ∀ a, a ∉ free → t.peek a = if s.accessKind a = .memory then (cells.lookup a).getD (s.peek a) else s.peek a

/-! ### Shapes of instructions -/

/-- An instruction that works on registers only: memory is unchanged. -/
def RegisterForm (i : Instr) (s : State) (regs : State → Prop) (fl : List (Flag × Bool)) : Prop :=
  Answers i s fun t => regs t ∧ FlagsBecome s t fl ∧ SameMemory s t ∧ Proceeds i s t

/-- An instruction that reads memory and stores nothing. -/
def LoadForm (i : Instr) (s : State) (regs : State → Prop) (fl : List (Flag × Bool)) : Prop :=
  Answers i s fun t => regs t ∧ FlagsBecome s t fl ∧ (Quiet s → SameMemory s t) ∧ Proceeds i s t

/-- An instruction that stores the listed cells. -/
def StoreForm (i : Instr) (s : State) (regs : State → Prop) (fl : List (Flag × Bool)) (cells : List (Addr × Byte))
    (free : List Addr) : Prop :=
  Answers i s fun t => regs t ∧ FlagsBecome s t fl ∧ (Quiet s → Stored s t cells free) ∧ Proceeds i s t

/-- A transfer of control that touches no memory and no register. -/
def JumpForm (i : Instr) (s : State) (target : Addr) : Prop :=
  Answers i s fun t => t.pc = target ∧ SameRegisters s t ∧ FlagsBecome s t [] ∧ SameMemory s t ∧ SameControl s t ∧
    SameOutside s t

/-- An instruction that writes `v` to CCR: the next boundary detects no interrupt (R456, R491). -/
def CcrForm (i : Instr) (s : State) (regs : State → Prop) (v : Byte) : Prop :=
  Answers i s fun t => regs t ∧ t.ccr = v ∧ (Quiet s → SameMemory s t) ∧
    t.pc = s.am (s.pc + BitVec.ofNat 24 i.length) ∧ t.inhibitInt = true ∧ t.proc = s.proc ∧ t.nmiDue = s.nmiDue ∧
    t.stale = s.stale ∧ SameOutside s t

/-- The byte an 8-bit register is, of its whole register's value (R21). -/
def byteOf (r : Reg8) (x : Long) : Byte :=
  match r with
  | .h _ => x.extractLsb' 8 8
  | .l _ => x.extractLsb' 0 8

/-- The word a 16-bit register is, of its whole register's value (R21). -/
def wordOf (r : Reg16) (x : Long) : Word :=
  match r with
  | .r _ => x.extractLsb' 0 16
  | .e _ => x.extractLsb' 16 16

/-- After a post-increment byte load: pointer and destination. Where the destination is part of the pointer, that register
may hold anything (R172, D24). -/
def PostIncByte (s t : State) (ers : ERn) (rd : Reg8) (v : Byte) : Prop :=
  (rd.whole ≠ ers → t.reg8 rd = v ∧ t.er ers = s.er ers + 1) ∧
    (∀ r, r ≠ rd → r.whole ≠ ers → t.reg8 r = s.reg8 r) ∧ ∀ n, n ≠ ers → t.reg16 (.e n) = s.reg16 (.e n)

/-- After a post-increment word load. -/
def PostIncWord (s t : State) (ers : ERn) (rd : Reg16) (v : Word) : Prop :=
  (rd.whole ≠ ers → t.reg16 rd = v ∧ t.er ers = s.er ers + 2) ∧ ∀ r, r ≠ rd → r.whole ≠ ers → t.reg16 r = s.reg16 r

/-- After a post-increment longword load. -/
def PostIncLong (s t : State) (ers erd : ERn) (v : Long) : Prop :=
  (erd ≠ ers → t.er erd = v ∧ t.er ers = s.er ers + 4) ∧ ∀ n, n ≠ erd → n ≠ ers → t.er n = s.er n

/-! ### Flags of results -/

/-- N when the datum is negative, Z when it is zero, V cleared (R170, R300). -/
def testFlags {w : Nat} (v : BitVec w) : List (Flag × Bool) :=
  [(.n, decide (v.toInt < 0)), (.z, decide (v.toNat = 0)), (.v, false)]

/-- The flags of ADD by the Boolean equations of R38, `m` being the top bit: source, destination, result. -/
def addFlags {w : Nat} (m : Nat) (s d r : BitVec w) (z : Bool) : List (Flag × Bool) :=
  [(.h, (s.getLsbD (m - 4) && d.getLsbD (m - 4)) || (d.getLsbD (m - 4) && !r.getLsbD (m - 4)) ||
      (s.getLsbD (m - 4) && !r.getLsbD (m - 4))),
    (.n, r.getLsbD m), (.z, z && decide (r.toNat = 0)),
    (.v, (s.getLsbD m && d.getLsbD m && !r.getLsbD m) || (!s.getLsbD m && !d.getLsbD m && r.getLsbD m)),
    (.c, (s.getLsbD m && d.getLsbD m) || (d.getLsbD m && !r.getLsbD m) || (s.getLsbD m && !r.getLsbD m))]

/-- The flags of SUB and CMP by the Boolean equations of R38: source, destination, result. -/
def subFlags {w : Nat} (m : Nat) (s d r : BitVec w) (z : Bool) : List (Flag × Bool) :=
  [(.h, (s.getLsbD (m - 4) && !d.getLsbD (m - 4)) || (!d.getLsbD (m - 4) && r.getLsbD (m - 4)) ||
      (s.getLsbD (m - 4) && r.getLsbD (m - 4))),
    (.n, r.getLsbD m), (.z, z && decide (r.toNat = 0)),
    (.v, (!s.getLsbD m && d.getLsbD m && !r.getLsbD m) || (s.getLsbD m && !d.getLsbD m && r.getLsbD m)),
    (.c, (s.getLsbD m && !d.getLsbD m) || (!d.getLsbD m && r.getLsbD m) || (s.getLsbD m && r.getLsbD m))]

/-- The flags of NEG by the Boolean equations of R38: destination, result. -/
def negFlags {w : Nat} (m : Nat) (d r : BitVec w) : List (Flag × Bool) :=
  [(.h, d.getLsbD (m - 4) || r.getLsbD (m - 4)), (.n, r.getLsbD m), (.z, decide (r.toNat = 0)),
    (.v, d.getLsbD m && r.getLsbD m), (.c, d.getLsbD m || r.getLsbD m)]

/-- The flags of INC by R38: destination, result. -/
def incFlags {w : Nat} (m : Nat) (d r : BitVec w) : List (Flag × Bool) :=
  [(.n, r.getLsbD m), (.z, decide (r.toNat = 0)), (.v, !d.getLsbD m && r.getLsbD m)]

/-- The flags of DEC by R38: destination, result. -/
def decFlags {w : Nat} (m : Nat) (d r : BitVec w) : List (Flag × Bool) :=
  [(.n, r.getLsbD m), (.z, decide (r.toNat = 0)), (.v, d.getLsbD m && !r.getLsbD m)]

/-! ### Shifted values -/

/-- `r` is `d` moved one bit to the left, `b` entering at bit 0. -/
def MovedLeft {w : Nat} (d r : BitVec w) (b : Bool) : Prop :=
  ∀ k, k < w → r.getLsbD k = if k = 0 then b else d.getLsbD (k - 1)

/-- `r` is `d` moved one bit to the right, `b` entering at the top. -/
def MovedRight {w : Nat} (d r : BitVec w) (b : Bool) : Prop :=
  ∀ k, k < w → r.getLsbD k = if k = w - 1 then b else d.getLsbD (k + 1)

/-- The flags of a shift or rotate: result, the bit shifted out, V (R322). -/
def shiftFlags {w : Nat} (r : BitVec w) (c v : Bool) : List (Flag × Bool) :=
  [(.n, decide (r.toInt < 0)), (.z, decide (r.toNat = 0)), (.v, v), (.c, c)]

/-- A left shift or rotate of a byte, a word or a longword register: `b` enters at bit 0, `v` gives V. -/
def LeftShifts (byte : Reg8 → Instr) (word : Reg16 → Instr) (long : ERn → Instr) (s : State)
    (b : (top c : Bool) → Bool) (v : (top next : Bool) → Bool) : Prop :=
  (∀ rd, ∃ r, MovedLeft (s.reg8 rd) r (b ((s.reg8 rd).getLsbD 7) (s.flag .c)) ∧
    RegisterForm (byte rd) s (fun t => OnlyByte s t rd r)
      (shiftFlags r ((s.reg8 rd).getLsbD 7) (v ((s.reg8 rd).getLsbD 7) ((s.reg8 rd).getLsbD 6)))) ∧
  (∀ rd, ∃ r, MovedLeft (s.reg16 rd) r (b ((s.reg16 rd).getLsbD 15) (s.flag .c)) ∧
    RegisterForm (word rd) s (fun t => OnlyWord s t rd r)
      (shiftFlags r ((s.reg16 rd).getLsbD 15) (v ((s.reg16 rd).getLsbD 15) ((s.reg16 rd).getLsbD 14)))) ∧
  (∀ rd, ∃ r, MovedLeft (s.er rd) r (b ((s.er rd).getLsbD 31) (s.flag .c)) ∧
    RegisterForm (long rd) s (fun t => OnlyLong s t rd r)
      (shiftFlags r ((s.er rd).getLsbD 31) (v ((s.er rd).getLsbD 31) ((s.er rd).getLsbD 30))))

/-- A right shift or rotate of a byte, a word or a longword register: `b` enters at the top; V is cleared. -/
def RightShifts (byte : Reg8 → Instr) (word : Reg16 → Instr) (long : ERn → Instr) (s : State)
    (b : (top low c : Bool) → Bool) : Prop :=
  (∀ rd, ∃ r, MovedRight (s.reg8 rd) r (b ((s.reg8 rd).getLsbD 7) ((s.reg8 rd).getLsbD 0) (s.flag .c)) ∧
    RegisterForm (byte rd) s (fun t => OnlyByte s t rd r) (shiftFlags r ((s.reg8 rd).getLsbD 0) false)) ∧
  (∀ rd, ∃ r, MovedRight (s.reg16 rd) r (b ((s.reg16 rd).getLsbD 15) ((s.reg16 rd).getLsbD 0) (s.flag .c)) ∧
    RegisterForm (word rd) s (fun t => OnlyWord s t rd r) (shiftFlags r ((s.reg16 rd).getLsbD 0) false)) ∧
  (∀ rd, ∃ r, MovedRight (s.er rd) r (b ((s.er rd).getLsbD 31) ((s.er rd).getLsbD 0) (s.flag .c)) ∧
    RegisterForm (long rd) s (fun t => OnlyLong s t rd r) (shiftFlags r ((s.er rd).getLsbD 0) false))

/-! ### Bits -/

/-- `r` is `x` with bit `n` equal to `b` and every other bit unchanged. -/
def BitReplaced (x r : Byte) (n : Nat) (b : Bool) : Prop := ∀ k, k < 8 → r.getLsbD k = if k = n then b else x.getLsbD k

/-- The instruction replaces bit `n` of an 8-bit register by `b` of the old bit; no flag changes. -/
def ReplacesRegisterBit (i : Instr) (s : State) (rd : Reg8) (n : Nat) (b : Bool → Bool) : Prop :=
  ∃ r, BitReplaced (s.reg8 rd) r n (b ((s.reg8 rd).getLsbD n)) ∧ RegisterForm i s (fun t => OnlyByte s t rd r) []

/-- The instruction replaces bit `n` of the byte at `ea` by `b` of the old bit; every other byte of memory is unchanged,
and no flag and no register changes. An operand that is not RAM does not change: ROM and absent addresses by D25; a device
by the model's choice (DESIGN CHOICE, log 7), which holds no state of one, while D29 lets the write reach it. -/
def ReplacesMemoryBit (i : Instr) (s : State) (ea : Addr) (n : Nat) (b : Bool → Bool) : Prop :=
  Answers i s fun t => SameRegisters s t ∧ FlagsBecome s t [] ∧ Proceeds i s t ∧
    (Quiet s → ∀ a, if a = s.am ea ∧ s.accessKind a = .memory
      then BitReplaced (s.peek a) (t.peek a) n (b ((s.peek a).getLsbD n)) else t.peek a = s.peek a)

/-- The instruction only sets one flag from bit `n` of an 8-bit register. -/
def FlagFromRegisterBit (i : Instr) (s : State) (rd : Reg8) (n : Nat) (f : Flag) (g : Bool → Bool) : Prop :=
  RegisterForm i s (fun t => SameRegisters s t) [(f, g ((s.reg8 rd).getLsbD n))]

/-- The instruction only sets one flag from bit `n` of the byte it reads at `ea`. -/
def FlagFromMemoryBit (i : Instr) (s : State) (ea : Addr) (n : Nat) (f : Flag) (g : Bool → Bool) : Prop :=
  ∃ x, ByteRead s ea x ∧ LoadForm i s (fun t => SameRegisters s t) [(f, g (x.getLsbD n))]

/-! ### Stack frames and exceptions -/

/-- The bytes BSR and JSR store below the new SP and, in advanced mode, the reserved byte that may hold anything
(R404). -/
def callCells (s : State) (sp : Long) (ret : Addr) : List (Addr × Byte) × List Addr :=
  match s.mode with
  | .normal => (wordCells s (low24 sp) (ret.setWidth 16), [])
  | .advanced =>
    ((s.wordBase (low24 sp) ||| 1#24, ret.extractLsb' 16 8) :: wordCells s (low24 sp + 2) (ret.setWidth 16),
      [s.wordBase (low24 sp)])

/-- The size of a subroutine frame (R404). -/
def State.frameSize (s : State) : Long :=
  match s.mode with
  | .normal => 2
  | .advanced => 4

/-- A subroutine call to `target`: the frame holds the address of the next instruction. -/
def CallForm (i : Instr) (s : State) (target : Addr) : Prop :=
  Answers i s fun t =>
    OnlyLong s t 7#3 (s.sp - s.frameSize) ∧ FlagsBecome s t [] ∧ t.pc = evenAddr (s.am target) ∧
      SameControl s t ∧ SameOutside s t ∧
      (Quiet s →
        Stored s t (callCells s (s.sp - s.frameSize) (s.am (s.pc + BitVec.ofNat 24 i.length))).1
          (callCells s (s.sp - s.frameSize) (s.am (s.pc + BitVec.ofNat 24 i.length))).2)

/-- The bytes an exception frame stores at the new SP: CCR, its companion byte, the low word of PC; the companion byte is
PC bits 23..16 in advanced mode and may be anything in normal mode (R487). -/
def exceptionCells (s : State) (sp : Long) (ret : Addr) : List (Addr × Byte) × List Addr :=
  match s.mode with
  | .normal =>
    ((s.wordBase (low24 sp), s.ccr) :: wordCells s (low24 sp + 2) (ret.setWidth 16), [s.wordBase (low24 sp) ||| 1#24])
  | .advanced =>
    ((s.wordBase (low24 sp), s.ccr) :: (s.wordBase (low24 sp) ||| 1#24, ret.extractLsb' 16 8) ::
      wordCells s (low24 sp + 2) (ret.setWidth 16), [])

/-- `v` is the branch address that a table entry at `p` holds (R73, R151, R484). -/
def EntryRead (s : State) (p : Addr) (v : Addr) : Prop :=
  match s.mode with
  | .normal => Quiet s → ReadableWord s p → v = (s.wordAt p).setWidth 24
  | .advanced => Quiet s → ReadableWord s p → ReadableWord s (p + 2) → v = low24 (s.longAt p)

/-- The request is masked (R490): it is not NMI, I = 1, and UI is no mask bit or is 1 or the LSI holds the request back. -/
def Masked (s : State) (r : Request) : Prop :=
  r.isNMI = false ∧ s.flag .i = true ∧ (s.uiIsMask = false ∨ s.flag .ui = true ∨ r.passesI = false)

/-- `r` is the request taken: the first NMI, or the first request that is not masked when no NMI is pending (R498, D20). -/
def Foremost (s : State) (before : List Request) (r : Request) (after : List Request) : Prop :=
  s.pending = before ++ r :: after ∧
    ((r.isNMI = true ∧ ∀ q ∈ before, q.isNMI = false) ∨
      ((∀ q ∈ s.pending, q.isNMI = false) ∧ (∀ q ∈ before, Masked s q) ∧ ¬Masked s r))

/-- The request does not end software standby: it is masked, or the LSI does not let it wake the CPU (R501). -/
def KeepsStandby (s : State) (r : Request) : Prop := Masked s r ∨ r.wakesStandby = false

/-- `r` is the request that ends software standby: the first NMI that may wake the CPU, or, when no such NMI is pending,
the first request that is not masked and may (R498, R501, D19, D20). -/
def Awakening (s : State) (before : List Request) (r : Request) (after : List Request) : Prop :=
  s.pending = before ++ r :: after ∧ ¬KeepsStandby s r ∧
    ((r.isNMI = true ∧ ∀ q ∈ before, q.isNMI = false ∨ KeepsStandby s q) ∨
      ((∀ q ∈ s.pending, q.isNMI = false ∨ KeepsStandby s q) ∧ ∀ q ∈ before, KeepsStandby s q))

/-- `t` is `s` after taking an exception through the vector at `vec`, `ret` being the address saved: the frame is stored,
I is set, UI too when it is a mask bit, and PC comes from the vector as it reads once the frame is stored (R488). -/
structure ExceptionTaken (s t : State) (ret vec : Addr) : Prop where
  registers : OnlyLong s t 7#3 (s.sp - 4)
  flags : FlagsBecome s t (if s.uiIsMask then [(.i, true), (.ui, true)] else [(.i, true)])
  frame : Quiet s → Stored s t (exceptionCells s (s.sp - 4) ret).1 (exceptionCells s (s.sp - 4) ret).2
  target : ∃ v, (Quiet s → EntryRead t vec v) ∧ t.pc = evenAddr (s.am v)
  running : t.proc = .programExecution
  prefetchEmpty : t.stale = []

/-! ### Block transfer -/

/-- The contents of a memory after copying `n` bytes forward one by one (R470, R474). -/
def copyForward (s : State) (f : Addr → Byte) (src dst : Addr) : Nat → Addr → Byte
  | 0 => f
  | n + 1 => copyForward s (fun a => if a = s.am dst then f (s.am src) else f a) (src + 1) (dst + 1) n

/-- How many bytes EEPMOV.W transfers: all of R4, or, when NMI is requested, those up to the byte at which it is seen, at
least one (R471, R472, D23). -/
def State.eepmovCount (s : State) : Nat :=
  let n := (s.reg16 (.r 4#3)).toNat
  if ∃ r ∈ s.pending, r.isNMI = true then min n 1
  else
    match s.lateNmi with
    | some (k, r) => if r.isNMI then min n (max k 1) else n
    | none => n

/-- The NMI whose entry is due after EEPMOV.W: the one seen after a transferred byte, the first if several are presented; if
none is seen, what it was (R472, D23). -/
def State.eepmovDue (s : State) : Option Request :=
  let n := (s.reg16 (.r 4#3)).toNat
  if n = 0 then s.nmiDue
  else
    match s.pending.find? fun r => r.isNMI with
    | some r => some r
    | none =>
      match s.lateNmi with
      | some (k, r) => if r.isNMI = true ∧ max k 1 ≤ n then some r else s.nmiDue
      | none => s.nmiDue

/-- ER5 and ER6 have gone on by `n`; ER0 to ER3, ER7 and E4 are unchanged. -/
def BlockPointers (s t : State) (n : Nat) : Prop :=
  t.er 5#3 = s.er 5#3 + BitVec.ofNat 32 n ∧ t.er 6#3 = s.er 6#3 + BitVec.ofNat 32 n ∧
    t.reg16 (.e 4#3) = s.reg16 (.e 4#3) ∧ ∀ m, m ≠ 4#3 → m ≠ 5#3 → m ≠ 6#3 → t.er m = s.er m

/-! ### Decimal data -/

/-- The value of a byte of two decimal digits (R26). -/
def bcdValue (x : Byte) : Nat := 10 * (x.toNat / 16) + x.toNat % 16

/-- Both digits are decimal. -/
def IsBcd (x : Byte) : Prop := x.toNat / 16 ≤ 9 ∧ x.toNat % 16 ≤ 9

/-- A byte register holds a decimal sum modulo 100, and C is its carry. -/
def DecimalSum (u : State) (rd : Reg8) (n : Nat) : Prop :=
  IsBcd (u.reg8 rd) ∧ bcdValue (u.reg8 rd) = n % 100 ∧ u.flag .c = decide (100 ≤ n)

/-- A byte register holds a decimal difference modulo 100 (the subtrahend is at most 100), and C is its borrow. -/
def DecimalDifference (u : State) (rd : Reg8) (m n : Nat) : Prop :=
  IsBcd (u.reg8 rd) ∧ bcdValue (u.reg8 rd) = (m + 100 - n) % 100 ∧ u.flag .c = decide (m < n)

/-! ### Runs -/

/-- Nothing comes from outside at this boundary: no scheduled input, the pins inactive, no bus request. -/
structure Undisturbed (s : State) : Prop where
  env : s.env = []
  stbyLow : s.stbyLow = false
  resLow : s.resLow = false
  busReq : s.busReq = false

/-- The words from `a` on are these, in RAM or ROM. -/
def CodeAt (s : State) (a : Addr) : List Word → Prop
  | [] => True
  | w :: ws => ReadableWord s a ∧ s.wordAt a = w ∧ CodeAt s (s.am (a + 2)) ws

/-- The instruction transfers control from a state with these flags: a Bcc whose condition of R401 holds, JMP, a call, RTS,
RTE or TRAPA. -/
def TakesTransfer (i : Instr) (s : State) : Prop :=
  match i with
  | .braD8 _ | .braD16 _ => True
  | .bhiD8 _ | .bhiD16 _ => s.flag .c = false ∧ s.flag .z = false
  | .blsD8 _ | .blsD16 _ => s.flag .c = true ∨ s.flag .z = true
  | .bccD8 _ | .bccD16 _ => s.flag .c = false
  | .bcsD8 _ | .bcsD16 _ => s.flag .c = true
  | .bneD8 _ | .bneD16 _ => s.flag .z = false
  | .beqD8 _ | .beqD16 _ => s.flag .z = true
  | .bvcD8 _ | .bvcD16 _ => s.flag .v = false
  | .bvsD8 _ | .bvsD16 _ => s.flag .v = true
  | .bplD8 _ | .bplD16 _ => s.flag .n = false
  | .bmiD8 _ | .bmiD16 _ => s.flag .n = true
  | .bgeD8 _ | .bgeD16 _ => s.flag .n = s.flag .v
  | .bltD8 _ | .bltD16 _ => s.flag .n ≠ s.flag .v
  | .bgtD8 _ | .bgtD16 _ => s.flag .z = false ∧ s.flag .n = s.flag .v
  | .bleD8 _ | .bleD16 _ => s.flag .z = true ∨ s.flag .n ≠ s.flag .v
  | .jmpInd _ | .jmpAbs24 _ | .jmpMemInd _ | .bsrD8 _ | .bsrD16 _ | .jsrInd _ | .jsrAbs24 _ | .jsrMemInd _ => True
  | .rts | .rte | .trapa _ => True
  | _ => False

/-- A call that pushes its frame after the target's first word is fetched (R404, table 2.8). -/
def PushesLast (i : Instr) : Prop :=
  (∃ disp, i = .bsrD8 disp) ∨ (∃ disp, i = .bsrD16 disp) ∨ (∃ n, i = .jsrInd n) ∨ ∃ abs, i = .jsrAbs24 abs

/-- The flags an instruction may write (R40); DAS outside its table leaves C open as well (R299). -/
def flagsWritten : Instr → List Flag
  | .addBImm .. | .addBReg .. | .addWImm .. | .addWReg .. | .addLImm .. | .addLReg .. | .subBReg .. | .subWImm ..
  | .subWReg .. | .subLImm .. | .subLReg .. | .cmpBImm .. | .cmpBReg .. | .cmpWImm .. | .cmpWReg .. | .cmpLImm ..
  | .cmpLReg .. | .negB .. | .negW .. | .negL .. | .addxImm .. | .addxReg .. | .subxImm .. | .subxReg .. | .daa ..
  | .das .. => [.h, .n, .z, .v, .c]
  | .incB .. | .incW1 .. | .incW2 .. | .incL1 .. | .incL2 .. | .decB .. | .decW1 .. | .decW2 .. | .decL1 ..
  | .decL2 .. => [.n, .z, .v]
  | .mulxsBReg .. | .mulxsWReg .. | .divxsBReg .. | .divxsWReg .. | .divxuBReg .. | .divxuWReg .. => [.n, .z]
  | .extuW .. | .extuL .. | .extsW .. | .extsL .. => [.n, .z, .v]
  | .andBImm .. | .andBReg .. | .andWImm .. | .andWReg .. | .andLImm .. | .andLReg .. | .orBImm .. | .orBReg ..
  | .orWImm .. | .orWReg .. | .orLImm .. | .orLReg .. | .xorBImm .. | .xorBReg .. | .xorWImm .. | .xorWReg ..
  | .xorLImm .. | .xorLReg .. | .notB .. | .notW .. | .notL .. => [.n, .z, .v]
  | .movBImm .. | .movBReg .. | .movBLoadInd .. | .movBLoadDisp16 .. | .movBLoadDisp24 .. | .movBLoadPostInc ..
  | .movBLoadAbs8 .. | .movBLoadAbs16 .. | .movBLoadAbs24 .. | .movBStoreInd .. | .movBStorePreDec ..
  | .movBStoreDisp16 .. | .movBStoreDisp24 .. | .movBStoreAbs8 .. | .movBStoreAbs16 .. | .movBStoreAbs24 ..
  | .movWImm .. | .movWReg .. | .movWLoadInd .. | .movWLoadDisp16 .. | .movWLoadDisp24 .. | .movWLoadPostInc ..
  | .movWLoadAbs16 .. | .movWLoadAbs24 .. | .movWStoreInd .. | .movWStorePreDec .. | .movWStoreDisp16 ..
  | .movWStoreDisp24 .. | .movWStoreAbs16 .. | .movWStoreAbs24 .. | .movLImm .. | .movLReg .. | .movLLoadInd ..
  | .movLLoadDisp16 .. | .movLLoadDisp24 .. | .movLLoadPostInc .. | .movLLoadAbs16 .. | .movLLoadAbs24 ..
  | .movLStorePreDec .. | .movLStoreInd .. | .movLStoreDisp16 .. | .movLStoreDisp24 .. | .movLStoreAbs16 ..
  | .movLStoreAbs24 .. | .pushW .. | .pushL .. | .popW .. | .popL .. | .movfpe .. | .movtpe .. => [.n, .z, .v]
  | .shalB .. | .shalW .. | .shalL .. | .sharB .. | .sharW .. | .sharL .. | .shllB .. | .shllW .. | .shllL ..
  | .shlrB .. | .shlrW .. | .shlrL .. | .rotlB .. | .rotlW .. | .rotlL .. | .rotrB .. | .rotrW .. | .rotrL ..
  | .rotxlB .. | .rotxlW .. | .rotxlL .. | .rotxrB .. | .rotxrW .. | .rotxrL .. => [.n, .z, .v, .c]
  | .btstImmReg .. | .btstImmInd .. | .btstImmAbs8 .. | .btstRegReg .. | .btstRegInd .. | .btstRegAbs8 .. => [.z]
  | .bandImmReg .. | .bandImmInd .. | .bandImmAbs8 .. | .biandImmReg .. | .biandImmInd .. | .biandImmAbs8 ..
  | .borImmReg .. | .borImmInd .. | .borImmAbs8 .. | .biorImmReg .. | .biorImmInd .. | .biorImmAbs8 ..
  | .bxorImmReg .. | .bxorImmInd .. | .bxorImmAbs8 .. | .bixorImmReg .. | .bixorImmInd .. | .bixorImmAbs8 ..
  | .bldImmReg .. | .bldImmInd .. | .bldImmAbs8 .. | .bildImmReg .. | .bildImmInd .. | .bildImmAbs8 .. => [.c]
  | .ldcBImm .. | .ldcBReg .. | .ldcWLoadInd .. | .ldcWLoadDisp16 .. | .ldcWLoadDisp24 .. | .ldcWLoadPostInc ..
  | .ldcWLoadAbs16 .. | .ldcWLoadAbs24 .. | .andc .. | .orc .. | .xorc .. | .rte =>
    [.i, .ui, .h, .u, .n, .z, .v, .c]
  | .trapa .. => [.i, .ui]
  | .adds1 .. | .adds2 .. | .adds4 .. | .mulxuBReg .. | .mulxuWReg .. | .subs1 .. | .subs2 .. | .subs4 ..
  | .bsetImmReg .. | .bsetImmInd .. | .bsetImmAbs8 .. | .bsetRegReg .. | .bsetRegInd .. | .bsetRegAbs8 ..
  | .bclrImmReg .. | .bclrImmInd .. | .bclrImmAbs8 .. | .bclrRegReg .. | .bclrRegInd .. | .bclrRegAbs8 ..
  | .bnotImmReg .. | .bnotImmInd .. | .bnotImmAbs8 .. | .bnotRegReg .. | .bnotRegInd .. | .bnotRegAbs8 ..
  | .bstImmReg .. | .bstImmInd .. | .bstImmAbs8 .. | .bistImmReg .. | .bistImmInd .. | .bistImmAbs8 .. | .braD8 ..
  | .brnD8 .. | .bhiD8 .. | .blsD8 .. | .bccD8 .. | .bcsD8 .. | .bneD8 .. | .beqD8 .. | .bvcD8 .. | .bvsD8 ..
  | .bplD8 .. | .bmiD8 .. | .bgeD8 .. | .bltD8 .. | .bgtD8 .. | .bleD8 .. | .braD16 .. | .brnD16 .. | .bhiD16 ..
  | .blsD16 .. | .bccD16 .. | .bcsD16 .. | .bneD16 .. | .beqD16 .. | .bvcD16 .. | .bvsD16 .. | .bplD16 ..
  | .bmiD16 .. | .bgeD16 .. | .bltD16 .. | .bgtD16 .. | .bleD16 .. | .bsrD8 .. | .bsrD16 .. | .jmpInd ..
  | .jmpAbs24 .. | .jmpMemInd .. | .jsrInd .. | .jsrAbs24 .. | .jsrMemInd .. | .rts | .sleep | .stcBReg ..
  | .stcWStoreInd .. | .stcWStoreDisp16 .. | .stcWStoreDisp24 .. | .stcWStorePreDec .. | .stcWStoreAbs16 ..
  | .stcWStoreAbs24 .. | .nop | .eepmovB | .eepmovW => []

end Sys2Proof.Machine
end

