-- ==== Sys2Proof/Certificates/Slice0/Obligations.lean ====
section
/-! DEFINITION. The statements for the provers, in the words of Sys2Proof/Safety.lean. -/

open Sys2Proof Sys2Proof.Machine

/-- Words written out from the formats of 30_encoding.md and of each instruction rule decode to the instruction they
stand for. -/
def Obligations.SampleWordsDecode : Prop :=
  decode [0xF980#16] = .instr (.movBImm 0x80#8 (.l 1#3)) ∧
  decode [0x0A92#16] = .instr (.addLReg 1#3 2#3) ∧
  decode [0x119B#16] = .instr (.sharW (.e 3#3)) ∧
  decode [0x7F02#16, 0x6080#16] = .instr (.bsetRegAbs8 (.l 0#3) 0x02#8) ∧
  decode [0x46FA#16] = .instr (.bneD8 0xFA#8) ∧
  decode [0x5F30#16] = .instr (.jsrMemInd 0x30#8) ∧
  decode [0x5720#16] = .instr (.trapa 2#2) ∧
  decode [0x7BD4#16, 0x598F#16] = .instr .eepmovW

/-- Decode and encode agree: no operand bit of any encoding is dropped, and words after the instruction do not matter
(R100 to R119). -/
def Obligations.DecodeOfEncodeIsTheInstruction : Prop :=
  ∀ (i : Instr) (rest : List Word), i.wellFormed = true → decode (encode i ++ rest) = .instr i

/-- The other direction: a code that is read as an instruction has every fixed bit at its printed value (R108, D22),
so no reserved code falls through to a neighbour. -/
def Obligations.DecodedWordsAreTheEncoding : Prop :=
  ∀ (ws : List Word) (i : Instr), decode ws = .instr i → i.wellFormed = true ∧ encode i <+: ws

/-- The length of an instruction is found word by word (R101, R113): 2, 4, 6, 8 or 10 bytes. -/
def Obligations.ProperPrefixesAreIncomplete : Prop :=
  ∀ (i : Instr), i.wellFormed = true →
    i.length = 2 * (encode i).length ∧ 1 ≤ (encode i).length ∧ (encode i).length ≤ 5 ∧
      ∀ k, k < (encode i).length → decode ((encode i).take k) = .incomplete

/-- Fetch, decode and execute (R509); an inhibited boundary detects no interrupt (R491). Around exec the step renews
the prefetch (log 18) and settles the inputs of this step (log 19). -/
def Obligations.StepRunsTheInstructionAtPc : Prop :=
  ∀ (i : Instr) (s : State), i.wellFormed = true → Undisturbed s → s.proc = .programExecution → s.stale = [] →
    s.nmiDue = none → (s.inhibitInt = true ∨ ∀ r ∈ s.pending, Masked s r) → CodeAt s s.pc (encode i) →
    step s =
      match exec i { s with inhibitInt := false } with
      | .next t => .next (prefetchAfter i { s with inhibitInt := false } t).settle
      | .fault f => .fault f
      | .refused r => .refused r

/-- The spec gives an undefined code no effect and tells a model to refuse it (R114, D4; log 14). -/
def Obligations.UndefinedCodeIsRefused : Prop :=
  ∀ (ws : List Word) (s : State), decode ws = .undefinedCode → Undisturbed s → s.proc = .programExecution →
    s.stale = [] → s.nmiDue = none → (s.inhibitInt = true ∨ ∀ r ∈ s.pending, Masked s r) → CodeAt s s.pc ws →
    step s = .refused .undefinedInstruction

/-- R400 (e), R543: a taken transfer discards the prefetch and fetches anew from its target. The frame of R404 is
pushed after that fetch by BSR and JSR (table 2.8); that it may then be fetched old is the freedom of log 18. -/
def Obligations.TakenTransfersRefetch : Prop :=
  ∀ (i : Instr) (s s1 : State), Undisturbed s → s.proc = .programExecution →
    s.nmiDue = none → (s.inhibitInt = true ∨ ∀ r ∈ s.pending, Masked s r) →
    ({ s with inhibitInt := false } : State).fetchInstr = .instr i s1 → TakesTransfer i s1 →
    Answers i s1 fun t => ∃ u, step s = .next u ∧ u.pc = t.pc ∧ u.mem = t.mem ∧ (¬PushesLast i → u.stale = []) ∧
      ∀ x ∈ u.stale, Memory.lookup s1.mem x.1 ≠ Memory.lookup t.mem x.1

/-- The environment acts once per boundary (R6 IntEnv; log 19). The schedule is the model's choice. -/
def Obligations.EachStepTakesOneInput : Prop :=
  ∀ (s t : State), step s = .next t →
    t.env = s.env.tail ∧ t.lateNmi = none ∧ t.busScript = [] ∧
      t.resLow = (s.env.head?.elim s.resLow fun k => k.resLow) ∧
      t.stbyLow = (s.env.head?.elim s.stbyLow fun k => k.stbyLow) ∧
      t.busReq = (s.env.head?.elim s.busReq fun k => k.busReq)

/-- State.reset meets the invariant. PC = 0 and the empty memory are the model's choice (log 3, log 5). -/
def Obligations.ResetMeetsTheInvariant : Prop :=
  State.reset.Inv

/-- PC is even and within the address space after every instruction, exception and reset (R27 to R30, D5, D6, D7). The
clauses on the canonical form of memory (DESIGN CHOICE, log 5) and on stale bytes lying only in the four bytes at PC
(DESIGN CHOICE, log 18, after R80, R543 and D14) are the model's choice. -/
def Obligations.StepKeepsTheInvariant : Prop :=
  ∀ (s t : State), s.Inv → step s = .next t → t.Inv

/-- The mode is chosen by pins and never by an instruction (R6, D1); the parameters are constants of the LSI. -/
def Obligations.StepKeepsTheParameters : Prop :=
  ∀ (s t : State), step s = .next t →
    t.mode = s.mode ∧ t.uiIsMask = s.uiIsMask ∧ t.hasEClock = s.hasEClock ∧ t.memMap = s.memMap

/-- Writes to ROM and to absent addresses are dropped (D25). The device clause is the model's choice (DESIGN CHOICE,
log 7): it holds no state of a device, and `peek` is not what a read of a device gives (D29); nor does it reset the
modules in standby (R501, R502). -/
def Obligations.OnlyRamChanges : Prop :=
  ∀ (s t : State) (a : Addr), step s = .next t → s.accessKind a ≠ .memory → t.peek a = s.peek a

/-- In normal mode only bits 15..0 of an address of the CPU are used (R42, R66). That another master's write is masked
to 16 bits as well is the model's choice (DESIGN CHOICE, log 21). -/
def Obligations.NormalModeStaysInItsAddressSpace : Prop :=
  ∀ (s t : State) (a : Addr), s.mode = .normal → step s = .next t → 2 ^ 16 ≤ a.toNat → t.peek a = s.peek a

/-- The table of R40 over all instructions; DAS outside its table leaves C open as well (R299). -/
def Obligations.InstructionsWriteOnlyTheirFlags : Prop :=
  ∀ (i : Instr) (s t : State) (f : Flag), exec i s = .next t → f ∉ flagsWritten i → t.flag f = s.flag f

/-- MOV immediate and register forms (R170, R173, R174, R189, R190, R204, R205). -/
def Obligations.MovesOfImmediatesAndRegisters : Prop :=
  ∀ (s : State),
    (∀ imm rd, RegisterForm (.movBImm imm rd) s (fun t => OnlyByte s t rd imm) (testFlags imm)) ∧
    (∀ rs rd, RegisterForm (.movBReg rs rd) s (fun t => OnlyByte s t rd (s.reg8 rs)) (testFlags (s.reg8 rs))) ∧
    (∀ imm rd, RegisterForm (.movWImm imm rd) s (fun t => OnlyWord s t rd imm) (testFlags imm)) ∧
    (∀ rs rd, RegisterForm (.movWReg rs rd) s (fun t => OnlyWord s t rd (s.reg16 rs)) (testFlags (s.reg16 rs))) ∧
    (∀ imm rd, RegisterForm (.movLImm imm rd) s (fun t => OnlyLong s t rd imm) (testFlags imm)) ∧
    (∀ rs rd, RegisterForm (.movLReg rs rd) s (fun t => OnlyLong s t rd (s.er rs)) (testFlags (s.er rs)))

/-- MOV loads of a byte (R175 to R177, R179 to R181) with the flags of R170 and the memory primitives of R64. That a
byte of a device is unchanged by a read is the model's choice (DESIGN CHOICE, log 7): it holds no state of a device,
while D29 lets a read change it. -/
def Obligations.ByteLoads : Prop :=
  ∀ (s : State),
    (∀ ers rd, ∃ x, ByteRead s (s.eaInd ers) x ∧
      LoadForm (.movBLoadInd ers rd) s (fun t => OnlyByte s t rd x) (testFlags x)) ∧
    (∀ disp ers rd, ∃ x, ByteRead s (s.eaDisp16 disp ers) x ∧
      LoadForm (.movBLoadDisp16 disp ers rd) s (fun t => OnlyByte s t rd x) (testFlags x)) ∧
    (∀ disp ers rd, ∃ x, ByteRead s (s.eaDisp24 disp ers) x ∧
      LoadForm (.movBLoadDisp24 disp ers rd) s (fun t => OnlyByte s t rd x) (testFlags x)) ∧
    (∀ abs rd, ∃ x, ByteRead s (eaAbs8 abs) x ∧
      LoadForm (.movBLoadAbs8 abs rd) s (fun t => OnlyByte s t rd x) (testFlags x)) ∧
    (∀ abs rd, ∃ x, ByteRead s (eaAbs16 abs) x ∧
      LoadForm (.movBLoadAbs16 abs rd) s (fun t => OnlyByte s t rd x) (testFlags x)) ∧
    (∀ abs rd, ∃ x, ByteRead s (eaAbs24 abs) x ∧
      LoadForm (.movBLoadAbs24 abs rd) s (fun t => OnlyByte s t rd x) (testFlags x))

/-- MOV loads of a word (R191 to R193, R195, R196) with the flags of R170 and the memory primitives of R64. That a
byte of a device is unchanged by a read is the model's choice (DESIGN CHOICE, log 7): it holds no state of a device,
while D29 lets a read change it. -/
def Obligations.WordLoads : Prop :=
  ∀ (s : State),
    (∀ ers rd, ∃ x, WordRead s (s.eaInd ers) x ∧
      LoadForm (.movWLoadInd ers rd) s (fun t => OnlyWord s t rd x) (testFlags x)) ∧
    (∀ disp ers rd, ∃ x, WordRead s (s.eaDisp16 disp ers) x ∧
      LoadForm (.movWLoadDisp16 disp ers rd) s (fun t => OnlyWord s t rd x) (testFlags x)) ∧
    (∀ disp ers rd, ∃ x, WordRead s (s.eaDisp24 disp ers) x ∧
      LoadForm (.movWLoadDisp24 disp ers rd) s (fun t => OnlyWord s t rd x) (testFlags x)) ∧
    (∀ abs rd, ∃ x, WordRead s (eaAbs16 abs) x ∧
      LoadForm (.movWLoadAbs16 abs rd) s (fun t => OnlyWord s t rd x) (testFlags x)) ∧
    (∀ abs rd, ∃ x, WordRead s (eaAbs24 abs) x ∧
      LoadForm (.movWLoadAbs24 abs rd) s (fun t => OnlyWord s t rd x) (testFlags x))

/-- MOV loads of a longword (R206 to R208, R210, R211) with the flags of R170 and the memory primitives of R64. That a
byte of a device is unchanged by a read is the model's choice (DESIGN CHOICE, log 7): it holds no state of a device,
while D29 lets a read change it. -/
def Obligations.LongwordLoads : Prop :=
  ∀ (s : State),
    (∀ ers rd, ∃ x, LongRead s (s.eaInd ers) x ∧
      LoadForm (.movLLoadInd ers rd) s (fun t => OnlyLong s t rd x) (testFlags x)) ∧
    (∀ disp ers rd, ∃ x, LongRead s (s.eaDisp16 disp ers) x ∧
      LoadForm (.movLLoadDisp16 disp ers rd) s (fun t => OnlyLong s t rd x) (testFlags x)) ∧
    (∀ disp ers rd, ∃ x, LongRead s (s.eaDisp24 disp ers) x ∧
      LoadForm (.movLLoadDisp24 disp ers rd) s (fun t => OnlyLong s t rd x) (testFlags x)) ∧
    (∀ abs rd, ∃ x, LongRead s (eaAbs16 abs) x ∧
      LoadForm (.movLLoadAbs16 abs rd) s (fun t => OnlyLong s t rd x) (testFlags x)) ∧
    (∀ abs rd, ∃ x, LongRead s (eaAbs24 abs) x ∧
      LoadForm (.movLLoadAbs24 abs rd) s (fun t => OnlyLong s t rd x) (testFlags x))

/-- MOV stores of a byte (R182, R184 to R188) with the flags of R170 and the memory primitives of R64. That a byte of
a device is unchanged by a write is the model's choice (DESIGN CHOICE, log 7): it holds no state of a device, while
D29 lets the write reach it. -/
def Obligations.ByteStores : Prop :=
  ∀ (s : State),
    (∀ rs erd, StoreForm (.movBStoreInd rs erd) s (fun t => SameRegisters s t) (testFlags (s.reg8 rs))
      (byteCells s (s.eaInd erd) (s.reg8 rs)) []) ∧
    (∀ rs disp erd, StoreForm (.movBStoreDisp16 rs disp erd) s (fun t => SameRegisters s t) (testFlags (s.reg8 rs))
      (byteCells s (s.eaDisp16 disp erd) (s.reg8 rs)) []) ∧
    (∀ rs disp erd, StoreForm (.movBStoreDisp24 rs disp erd) s (fun t => SameRegisters s t) (testFlags (s.reg8 rs))
      (byteCells s (s.eaDisp24 disp erd) (s.reg8 rs)) []) ∧
    (∀ rs abs, StoreForm (.movBStoreAbs8 rs abs) s (fun t => SameRegisters s t) (testFlags (s.reg8 rs))
      (byteCells s (eaAbs8 abs) (s.reg8 rs)) []) ∧
    (∀ rs abs, StoreForm (.movBStoreAbs16 rs abs) s (fun t => SameRegisters s t) (testFlags (s.reg8 rs))
      (byteCells s (eaAbs16 abs) (s.reg8 rs)) []) ∧
    (∀ rs abs, StoreForm (.movBStoreAbs24 rs abs) s (fun t => SameRegisters s t) (testFlags (s.reg8 rs))
      (byteCells s (eaAbs24 abs) (s.reg8 rs)) [])

/-- MOV stores of a word (R197, R199 to R202) with the flags of R170 and the memory primitives of R64. That a byte of
a device is unchanged by a write is the model's choice (DESIGN CHOICE, log 7): it holds no state of a device, while
D29 lets the write reach it. -/
def Obligations.WordStores : Prop :=
  ∀ (s : State),
    (∀ rs erd, StoreForm (.movWStoreInd rs erd) s (fun t => SameRegisters s t) (testFlags (s.reg16 rs))
      (wordCells s (s.eaInd erd) (s.reg16 rs)) []) ∧
    (∀ rs disp erd, StoreForm (.movWStoreDisp16 rs disp erd) s (fun t => SameRegisters s t) (testFlags (s.reg16 rs))
      (wordCells s (s.eaDisp16 disp erd) (s.reg16 rs)) []) ∧
    (∀ rs disp erd, StoreForm (.movWStoreDisp24 rs disp erd) s (fun t => SameRegisters s t) (testFlags (s.reg16 rs))
      (wordCells s (s.eaDisp24 disp erd) (s.reg16 rs)) []) ∧
    (∀ rs abs, StoreForm (.movWStoreAbs16 rs abs) s (fun t => SameRegisters s t) (testFlags (s.reg16 rs))
      (wordCells s (eaAbs16 abs) (s.reg16 rs)) []) ∧
    (∀ rs abs, StoreForm (.movWStoreAbs24 rs abs) s (fun t => SameRegisters s t) (testFlags (s.reg16 rs))
      (wordCells s (eaAbs24 abs) (s.reg16 rs)) [])

/-- MOV stores of a longword (R213 to R216, R219) with the flags of R170 and the memory primitives of R64. That a byte
of a device is unchanged by a write is the model's choice (DESIGN CHOICE, log 7): it holds no state of a device, while
D29 lets the write reach it. -/
def Obligations.LongwordStores : Prop :=
  ∀ (s : State),
    (∀ rs erd, StoreForm (.movLStoreInd rs erd) s (fun t => SameRegisters s t) (testFlags (s.er rs))
      (longCells s (s.eaInd erd) (s.er rs)) []) ∧
    (∀ rs disp erd, StoreForm (.movLStoreDisp16 rs disp erd) s (fun t => SameRegisters s t) (testFlags (s.er rs))
      (longCells s (s.eaDisp16 disp erd) (s.er rs)) []) ∧
    (∀ rs disp erd, StoreForm (.movLStoreDisp24 rs disp erd) s (fun t => SameRegisters s t) (testFlags (s.er rs))
      (longCells s (s.eaDisp24 disp erd) (s.er rs)) []) ∧
    (∀ rs abs, StoreForm (.movLStoreAbs16 rs abs) s (fun t => SameRegisters s t) (testFlags (s.er rs))
      (longCells s (eaAbs16 abs) (s.er rs)) []) ∧
    (∀ rs abs, StoreForm (.movLStoreAbs24 rs abs) s (fun t => SameRegisters s t) (testFlags (s.er rs))
      (longCells s (eaAbs24 abs) (s.er rs)) [])

/-- Post-increment (R24, R144) for R178, R194, R209, R220, R221; the destination inside the pointer is open (R172,
D24, log 10). That a byte of a device is unchanged by a read is the model's choice (DESIGN CHOICE, log 7): it holds no
state of a device, while D29 lets a read change it. -/
def Obligations.PostIncrementLoadsAndPops : Prop :=
  ∀ (s : State),
    (∀ ers rd, ∃ x, ByteRead s (s.eaInd ers) x ∧
      LoadForm (.movBLoadPostInc ers rd) s (fun t => PostIncByte s t ers rd x) (testFlags x)) ∧
    (∀ ers rd, ∃ x, WordRead s (s.eaInd ers) x ∧
      LoadForm (.movWLoadPostInc ers rd) s (fun t => PostIncWord s t ers rd x) (testFlags x)) ∧
    (∀ ers rd, ∃ x, LongRead s (s.eaInd ers) x ∧
      LoadForm (.movLLoadPostInc ers rd) s (fun t => PostIncLong s t ers rd x) (testFlags x)) ∧
    (∀ rn, ∃ x, WordRead s (s.eaInd 7#3) x ∧
      LoadForm (.popW rn) s (fun t => PostIncWord s t 7#3 rn x) (testFlags x)) ∧
    (∀ ern, ∃ x, LongRead s (s.eaInd 7#3) x ∧
      LoadForm (.popL ern) s (fun t => PostIncLong s t 7#3 ern x) (testFlags x))

/-- Pre-decrement (R24, R145) for R183, R198, R212, R217, R218; a source inside the pointer is read after the
decrement (R172). That a byte of a device is unchanged by a write is the model's choice (DESIGN CHOICE, log 7): it
holds no state of a device, while D29 lets the write reach it. -/
def Obligations.PreDecrementStoresAndPushes : Prop :=
  ∀ (s : State),
    (∀ rs erd, let p := s.er erd - 1
      let x := byteOf rs (if rs.whole = erd then p else s.er rs.whole)
      StoreForm (.movBStorePreDec rs erd) s (fun t => OnlyLong s t erd p) (testFlags x) (byteCells s (low24 p) x) []) ∧
    (∀ rs erd, let p := s.er erd - 2
      let x := wordOf rs (if rs.whole = erd then p else s.er rs.whole)
      StoreForm (.movWStorePreDec rs erd) s (fun t => OnlyLong s t erd p) (testFlags x) (wordCells s (low24 p) x) []) ∧
    (∀ rs erd, let p := s.er erd - 4
      let x := if rs = erd then p else s.er rs
      StoreForm (.movLStorePreDec rs erd) s (fun t => OnlyLong s t erd p) (testFlags x) (longCells s (low24 p) x) []) ∧
    (∀ rn, let p := s.sp - 2
      let x := wordOf rn (if rn.whole = 7#3 then p else s.er rn.whole)
      StoreForm (.pushW rn) s (fun t => OnlyLong s t 7#3 p) (testFlags x) (wordCells s (low24 p) x) []) ∧
    (∀ ern, let p := s.sp - 4
      let x := if ern = 7#3 then p else s.er ern
      StoreForm (.pushL ern) s (fun t => OnlyLong s t 7#3 p) (testFlags x) (longCells s (low24 p) x) [])

/-- MOVFPE and MOVTPE (R222, R223); without E clock their use is forbidden and no effect is given (D16, log 15). That
a byte of a device is unchanged by an access is the model's choice (DESIGN CHOICE, log 7): it holds no state of a
device, while D29 lets an access change it. -/
def Obligations.EClockTransfers : Prop :=
  ∀ (s : State) (abs : Word) (r : Reg8),
    (s.hasEClock = true →
      (∃ x, ByteRead s (eaAbs16 abs) x ∧ LoadForm (.movfpe abs r) s (fun t => OnlyByte s t r x) (testFlags x)) ∧
      StoreForm (.movtpe r abs) s (fun t => SameRegisters s t) (testFlags (s.reg8 r))
        (byteCells s (eaAbs16 abs) (s.reg8 r)) []) ∧
    (s.hasEClock = false →
      exec (.movfpe abs r) s = .refused .noEClock ∧ exec (.movtpe r abs) s = .refused .noEClock)

/-- ADD and ADDX (R230 to R236, R240, R241) against the flag equations of R38. -/
def Obligations.AdditionsAndTheirFlags : Prop :=
  ∀ (s : State),
    (∀ imm rd, let d := s.reg8 rd
      RegisterForm (.addBImm imm rd) s (fun t => OnlyByte s t rd (d + imm)) (addFlags 7 imm d (d + imm) true)) ∧
    (∀ rs rd, let d := s.reg8 rd
      let x := s.reg8 rs
      RegisterForm (.addBReg rs rd) s (fun t => OnlyByte s t rd (d + x)) (addFlags 7 x d (d + x) true)) ∧
    (∀ imm rd, let d := s.reg16 rd
      RegisterForm (.addWImm imm rd) s (fun t => OnlyWord s t rd (d + imm)) (addFlags 15 imm d (d + imm) true)) ∧
    (∀ rs rd, let d := s.reg16 rd
      let x := s.reg16 rs
      RegisterForm (.addWReg rs rd) s (fun t => OnlyWord s t rd (d + x)) (addFlags 15 x d (d + x) true)) ∧
    (∀ imm rd, let d := s.er rd
      RegisterForm (.addLImm imm rd) s (fun t => OnlyLong s t rd (d + imm)) (addFlags 31 imm d (d + imm) true)) ∧
    (∀ rs rd, let d := s.er rd
      let x := s.er rs
      RegisterForm (.addLReg rs rd) s (fun t => OnlyLong s t rd (d + x)) (addFlags 31 x d (d + x) true)) ∧
    (∀ imm rd, let d := s.reg8 rd
      let r := d + imm + (if s.flag .c then 1 else 0)
      RegisterForm (.addxImm imm rd) s (fun t => OnlyByte s t rd r) (addFlags 7 imm d r (s.flag .z))) ∧
    (∀ rs rd, let d := s.reg8 rd
      let x := s.reg8 rs
      let r := d + x + (if s.flag .c then 1 else 0)
      RegisterForm (.addxReg rs rd) s (fun t => OnlyByte s t rd r) (addFlags 7 x d r (s.flag .z)))

/-- SUB and SUBX (R277 to R281, R285, R286) against the flag equations of R38. -/
def Obligations.SubtractionsAndTheirFlags : Prop :=
  ∀ (s : State),
    (∀ rs rd, let d := s.reg8 rd
      let x := s.reg8 rs
      RegisterForm (.subBReg rs rd) s (fun t => OnlyByte s t rd (d - x)) (subFlags 7 x d (d - x) true)) ∧
    (∀ imm rd, let d := s.reg16 rd
      RegisterForm (.subWImm imm rd) s (fun t => OnlyWord s t rd (d - imm)) (subFlags 15 imm d (d - imm) true)) ∧
    (∀ rs rd, let d := s.reg16 rd
      let x := s.reg16 rs
      RegisterForm (.subWReg rs rd) s (fun t => OnlyWord s t rd (d - x)) (subFlags 15 x d (d - x) true)) ∧
    (∀ imm rd, let d := s.er rd
      RegisterForm (.subLImm imm rd) s (fun t => OnlyLong s t rd (d - imm)) (subFlags 31 imm d (d - imm) true)) ∧
    (∀ rs rd, let d := s.er rd
      let x := s.er rs
      RegisterForm (.subLReg rs rd) s (fun t => OnlyLong s t rd (d - x)) (subFlags 31 x d (d - x) true)) ∧
    (∀ imm rd, let d := s.reg8 rd
      let r := d - imm - (if s.flag .c then 1 else 0)
      RegisterForm (.subxImm imm rd) s (fun t => OnlyByte s t rd r) (subFlags 7 imm d r (s.flag .z))) ∧
    (∀ rs rd, let d := s.reg8 rd
      let x := s.reg8 rs
      let r := d - x - (if s.flag .c then 1 else 0)
      RegisterForm (.subxReg rs rd) s (fun t => OnlyByte s t rd r) (subFlags 7 x d r (s.flag .z)))

/-- CMP (R242 to R247) against the flag equations of R38. -/
def Obligations.ComparisonsChangeOnlyFlags : Prop :=
  ∀ (s : State),
    (∀ imm rd, let d := s.reg8 rd
      RegisterForm (.cmpBImm imm rd) s (SameRegisters s) (subFlags 7 imm d (d - imm) true)) ∧
    (∀ rs rd, let d := s.reg8 rd
      let x := s.reg8 rs
      RegisterForm (.cmpBReg rs rd) s (SameRegisters s) (subFlags 7 x d (d - x) true)) ∧
    (∀ imm rd, let d := s.reg16 rd
      RegisterForm (.cmpWImm imm rd) s (SameRegisters s) (subFlags 15 imm d (d - imm) true)) ∧
    (∀ rs rd, let d := s.reg16 rd
      let x := s.reg16 rs
      RegisterForm (.cmpWReg rs rd) s (SameRegisters s) (subFlags 15 x d (d - x) true)) ∧
    (∀ imm rd, let d := s.er rd
      RegisterForm (.cmpLImm imm rd) s (SameRegisters s) (subFlags 31 imm d (d - imm) true)) ∧
    (∀ rs rd, let d := s.er rd
      let x := s.er rs
      RegisterForm (.cmpLReg rs rd) s (SameRegisters s) (subFlags 31 x d (d - x) true))

/-- ADDS (R237 to R239) and SUBS (R282 to R284). -/
def Obligations.AddressAdjustmentsKeepAllFlags : Prop :=
  ∀ (s : State) (d : ERn),
    RegisterForm (.adds1 d) s (fun t => OnlyLong s t d (BitVec.ofNat 32 ((s.er d).toNat + 1))) [] ∧
    RegisterForm (.adds2 d) s (fun t => OnlyLong s t d (BitVec.ofNat 32 ((s.er d).toNat + 2))) [] ∧
    RegisterForm (.adds4 d) s (fun t => OnlyLong s t d (BitVec.ofNat 32 ((s.er d).toNat + 4))) [] ∧
    RegisterForm (.subs1 d) s (fun t => OnlyLong s t d (BitVec.ofInt 32 ((s.er d).toInt - 1))) [] ∧
    RegisterForm (.subs2 d) s (fun t => OnlyLong s t d (BitVec.ofInt 32 ((s.er d).toInt - 2))) [] ∧
    RegisterForm (.subs4 d) s (fun t => OnlyLong s t d (BitVec.ofInt 32 ((s.er d).toInt - 4))) []

/-- DEC (R250 to R254) and INC (R265 to R269) against the flag equations of R38. -/
def Obligations.IncrementsAndDecrements : Prop :=
  ∀ (s : State),
    (∀ rd, let d := s.reg8 rd
      RegisterForm (.incB rd) s (fun t => OnlyByte s t rd (d + 1)) (incFlags 7 d (d + 1))) ∧
    (∀ rd, let d := s.reg8 rd
      RegisterForm (.decB rd) s (fun t => OnlyByte s t rd (d - 1)) (decFlags 7 d (d - 1))) ∧
    (∀ rd, let d := s.reg16 rd
      RegisterForm (.incW1 rd) s (fun t => OnlyWord s t rd (d + 1)) (incFlags 15 d (d + 1))) ∧
    (∀ rd, let d := s.reg16 rd
      RegisterForm (.decW1 rd) s (fun t => OnlyWord s t rd (d - 1)) (decFlags 15 d (d - 1))) ∧
    (∀ rd, let d := s.reg16 rd
      RegisterForm (.incW2 rd) s (fun t => OnlyWord s t rd (d + 2)) (incFlags 15 d (d + 2))) ∧
    (∀ rd, let d := s.reg16 rd
      RegisterForm (.decW2 rd) s (fun t => OnlyWord s t rd (d - 2)) (decFlags 15 d (d - 2))) ∧
    (∀ rd, let d := s.er rd
      RegisterForm (.incL1 rd) s (fun t => OnlyLong s t rd (d + 1)) (incFlags 31 d (d + 1))) ∧
    (∀ rd, let d := s.er rd
      RegisterForm (.decL1 rd) s (fun t => OnlyLong s t rd (d - 1)) (decFlags 31 d (d - 1))) ∧
    (∀ rd, let d := s.er rd
      RegisterForm (.incL2 rd) s (fun t => OnlyLong s t rd (d + 2)) (incFlags 31 d (d + 2))) ∧
    (∀ rd, let d := s.er rd
      RegisterForm (.decL2 rd) s (fun t => OnlyLong s t rd (d - 2)) (decFlags 31 d (d - 2)))

/-- NEG (R274 to R276) against the flag equations of R38. -/
def Obligations.NegationsAndTheirFlags : Prop :=
  ∀ (s : State),
    (∀ rd, RegisterForm (.negB rd) s (fun t => OnlyByte s t rd (-s.reg8 rd)) (negFlags 7 (s.reg8 rd) (-s.reg8 rd))) ∧
    (∀ rd, RegisterForm (.negW rd) s (fun t => OnlyWord s t rd (-s.reg16 rd))
      (negFlags 15 (s.reg16 rd) (-s.reg16 rd))) ∧
    (∀ rd, RegisterForm (.negL rd) s (fun t => OnlyLong s t rd (-s.er rd)) (negFlags 31 (s.er rd) (-s.er rd)))

/-- EXTS (R261, R262) and EXTU (R263, R264). -/
def Obligations.ExtensionsKeepTheValue : Prop :=
  ∀ (s : State),
    (∀ rd, ∃ r : Word, r.toInt = ((s.reg16 rd).setWidth 8).toInt ∧
      RegisterForm (.extsW rd) s (fun t => OnlyWord s t rd r) (testFlags r)) ∧
    (∀ d, ∃ r : Long, r.toInt = ((s.er d).setWidth 16).toInt ∧
      RegisterForm (.extsL d) s (fun t => OnlyLong s t d r) (testFlags r)) ∧
    (∀ rd, ∃ r : Word, r.toNat = (s.reg16 rd).toNat % 2 ^ 8 ∧
      RegisterForm (.extuW rd) s (fun t => OnlyWord s t rd r) [(.n, false), (.z, decide (r.toNat = 0)), (.v, false)]) ∧
    (∀ d, ∃ r : Long, r.toNat = (s.er d).toNat % 2 ^ 16 ∧
      RegisterForm (.extuL d) s (fun t => OnlyLong s t d r) [(.n, false), (.z, decide (r.toNat = 0)), (.v, false)])

/-- MULXS (R270, R271) and MULXU (R272, R273). -/
def Obligations.ProductsAreExact : Prop :=
  ∀ (s : State),
    (∀ rs rd, ∃ p : Word, p.toNat = (s.reg16 rd).toNat % 2 ^ 8 * (s.reg8 rs).toNat ∧
      RegisterForm (.mulxuBReg rs rd) s (fun t => OnlyWord s t rd p) []) ∧
    (∀ rs d, ∃ p : Long, p.toNat = (s.er d).toNat % 2 ^ 16 * (s.reg16 rs).toNat ∧
      RegisterForm (.mulxuWReg rs d) s (fun t => OnlyLong s t d p) []) ∧
    (∀ rs rd, ∃ p : Word, p.toInt = ((s.reg16 rd).setWidth 8).toInt * (s.reg8 rs).toInt ∧
      RegisterForm (.mulxsBReg rs rd) s (fun t => OnlyWord s t rd p)
        [(.n, decide (p.toInt < 0)), (.z, decide (p.toNat = 0))]) ∧
    (∀ rs d, ∃ p : Long, p.toInt = ((s.er d).setWidth 16).toInt * (s.reg16 rs).toInt ∧
      RegisterForm (.mulxsWReg rs d) s (fun t => OnlyLong s t d p)
        [(.n, decide (p.toInt < 0)), (.z, decide (p.toNat = 0))])

/-- DIVXU (R258, R259, R260); the result is not guaranteed on a zero divisor or an overflow (D17, log 8). -/
def Obligations.UnsignedDivisions : Prop :=
  ∀ (s : State),
    (∀ rs rd, let a := (s.reg16 rd).toNat
      let b := (s.reg8 rs).toNat
      let fl := [(Flag.n, (s.reg8 rs).getLsbD 7), (Flag.z, decide (b = 0))]
      (b ≠ 0 → a / b < 2 ^ 8 → ∃ r q : Byte, a = q.toNat * b + r.toNat ∧ r.toNat < b ∧
        RegisterForm (.divxuBReg rs rd) s (fun t => OnlyWord s t rd (r ++ q)) fl) ∧
      ∃ v, RegisterForm (.divxuBReg rs rd) s (fun t => OnlyWord s t rd v) fl) ∧
    (∀ rs d, let a := (s.er d).toNat
      let b := (s.reg16 rs).toNat
      let fl := [(Flag.n, (s.reg16 rs).getLsbD 15), (Flag.z, decide (b = 0))]
      (b ≠ 0 → a / b < 2 ^ 16 → ∃ r q : Word, a = q.toNat * b + r.toNat ∧ r.toNat < b ∧
        RegisterForm (.divxuWReg rs d) s (fun t => OnlyLong s t d (r ++ q)) fl) ∧
      ∃ v, RegisterForm (.divxuWReg rs d) s (fun t => OnlyLong s t d v) fl)

/-- DIVXS (R255, R256, R257); the result is not guaranteed on a zero divisor or an overflow (D17, log 8). -/
def Obligations.SignedDivisions : Prop :=
  ∀ (s : State),
    (∀ rs rd, let a := (s.reg16 rd).toInt
      let b := (s.reg8 rs).toInt
      let fl := [(Flag.n, (s.reg8 rs).getLsbD 7 != (s.reg16 rd).getLsbD 15), (Flag.z, decide (b = 0))]
      (b ≠ 0 → -2 ^ 7 ≤ a.tdiv b → a.tdiv b < 2 ^ 7 → ∃ r q : Byte, a = q.toInt * b + r.toInt ∧ |r.toInt| < |b| ∧
        (0 ≤ a → 0 ≤ r.toInt) ∧ (a ≤ 0 → r.toInt ≤ 0) ∧
        RegisterForm (.divxsBReg rs rd) s (fun t => OnlyWord s t rd (r ++ q)) fl) ∧
      ∃ v, RegisterForm (.divxsBReg rs rd) s (fun t => OnlyWord s t rd v) fl) ∧
    (∀ rs d, let a := (s.er d).toInt
      let b := (s.reg16 rs).toInt
      let fl := [(Flag.n, (s.reg16 rs).getLsbD 15 != (s.er d).getLsbD 31), (Flag.z, decide (b = 0))]
      (b ≠ 0 → -2 ^ 15 ≤ a.tdiv b → a.tdiv b < 2 ^ 15 → ∃ r q : Word, a = q.toInt * b + r.toInt ∧ |r.toInt| < |b| ∧
        (0 ≤ a → 0 ≤ r.toInt) ∧ (a ≤ 0 → r.toInt ≤ 0) ∧
        RegisterForm (.divxsWReg rs d) s (fun t => OnlyLong s t d (r ++ q)) fl) ∧
      ∃ v, RegisterForm (.divxsWReg rs d) s (fun t => OnlyLong s t d v) fl)

/-- DAA and DAS (R248, R249, R299); what is not guaranteed is open (D18, log 9). -/
def Obligations.DecimalAdjustmentsFollowTheirTables : Prop :=
  ∀ (s : State) (rd : Reg8),
    (∀ row, decimalRow daaTable (s.flag .c) (s.flag .h) (s.reg8 rd) = some row → ∃ h v : Bool, let r := s.reg8 rd + row.added
      RegisterForm (.daa rd) s (fun t => OnlyByte s t rd r)
        [(.h, h), (.v, v), (.n, r.getLsbD 7), (.z, decide (r.toNat = 0)), (.c, row.cAfter)]) ∧
    (∀ row, decimalRow dasTable (s.flag .c) (s.flag .h) (s.reg8 rd) = some row → ∃ h v : Bool, let r := s.reg8 rd + row.added
      RegisterForm (.das rd) s (fun t => OnlyByte s t rd r)
        [(.h, h), (.v, v), (.n, r.getLsbD 7), (.z, decide (r.toNat = 0))]) ∧
    (∃ r h n z v c, RegisterForm (.daa rd) s (fun t => OnlyByte s t rd r) [(.h, h), (.n, n), (.z, z), (.v, v), (.c, c)]) ∧
    (∃ r h n z v c, RegisterForm (.das rd) s (fun t => OnlyByte s t rd r) [(.h, h), (.n, n), (.z, z), (.v, v), (.c, c)])

/-- What DAA is for (R248): decimal addition of packed digits, through the additions of R231, R232, R240 and R241. -/
def Obligations.DecimalAdditionIsCorrect : Prop :=
  ∀ (s : State) (rd : Reg8), IsBcd (s.reg8 rd) →
    (∀ x, IsBcd x → Answers (.addBImm x rd) s fun t => Answers (.daa rd) t fun u =>
      DecimalSum u rd (bcdValue (s.reg8 rd) + bcdValue x)) ∧
    (∀ rs, IsBcd (s.reg8 rs) → Answers (.addBReg rs rd) s fun t => Answers (.daa rd) t fun u =>
      DecimalSum u rd (bcdValue (s.reg8 rd) + bcdValue (s.reg8 rs))) ∧
    (∀ x, IsBcd x → Answers (.addxImm x rd) s fun t => Answers (.daa rd) t fun u =>
      DecimalSum u rd (bcdValue (s.reg8 rd) + bcdValue x + (s.flag .c).toNat)) ∧
    (∀ rs, IsBcd (s.reg8 rs) → Answers (.addxReg rs rd) s fun t => Answers (.daa rd) t fun u =>
      DecimalSum u rd (bcdValue (s.reg8 rd) + bcdValue (s.reg8 rs) + (s.flag .c).toNat))

/-- What DAS is for (R249): decimal subtraction of packed digits, through the subtractions of R277, R285 and R286. -/
def Obligations.DecimalSubtractionIsCorrect : Prop :=
  ∀ (s : State) (rd : Reg8), IsBcd (s.reg8 rd) →
    (∀ rs, IsBcd (s.reg8 rs) → Answers (.subBReg rs rd) s fun t => Answers (.das rd) t fun u =>
      DecimalDifference u rd (bcdValue (s.reg8 rd)) (bcdValue (s.reg8 rs))) ∧
    (∀ x, IsBcd x → Answers (.subxImm x rd) s fun t => Answers (.das rd) t fun u =>
      DecimalDifference u rd (bcdValue (s.reg8 rd)) (bcdValue x + (s.flag .c).toNat)) ∧
    (∀ rs, IsBcd (s.reg8 rs) → Answers (.subxReg rs rd) s fun t => Answers (.das rd) t fun u =>
      DecimalDifference u rd (bcdValue (s.reg8 rd)) (bcdValue (s.reg8 rs) + (s.flag .c).toNat))

/-- AND, OR, XOR, NOT (R301 to R321) with the flags of R300. -/
def Obligations.LogicResultsAndFlags : Prop :=
  ∀ (s : State),
    (∀ imm rd, RegisterForm (.andBImm imm rd) s (fun t => OnlyByte s t rd (s.reg8 rd &&& imm))
      (testFlags (s.reg8 rd &&& imm))) ∧
    (∀ rs rd, RegisterForm (.andBReg rs rd) s (fun t => OnlyByte s t rd (s.reg8 rd &&& s.reg8 rs))
      (testFlags (s.reg8 rd &&& s.reg8 rs))) ∧
    (∀ imm rd, RegisterForm (.andWImm imm rd) s (fun t => OnlyWord s t rd (s.reg16 rd &&& imm))
      (testFlags (s.reg16 rd &&& imm))) ∧
    (∀ rs rd, RegisterForm (.andWReg rs rd) s (fun t => OnlyWord s t rd (s.reg16 rd &&& s.reg16 rs))
      (testFlags (s.reg16 rd &&& s.reg16 rs))) ∧
    (∀ imm rd, RegisterForm (.andLImm imm rd) s (fun t => OnlyLong s t rd (s.er rd &&& imm))
      (testFlags (s.er rd &&& imm))) ∧
    (∀ rs rd, RegisterForm (.andLReg rs rd) s (fun t => OnlyLong s t rd (s.er rd &&& s.er rs))
      (testFlags (s.er rd &&& s.er rs))) ∧
    (∀ imm rd, RegisterForm (.orBImm imm rd) s (fun t => OnlyByte s t rd (s.reg8 rd ||| imm))
      (testFlags (s.reg8 rd ||| imm))) ∧
    (∀ rs rd, RegisterForm (.orBReg rs rd) s (fun t => OnlyByte s t rd (s.reg8 rd ||| s.reg8 rs))
      (testFlags (s.reg8 rd ||| s.reg8 rs))) ∧
    (∀ imm rd, RegisterForm (.orWImm imm rd) s (fun t => OnlyWord s t rd (s.reg16 rd ||| imm))
      (testFlags (s.reg16 rd ||| imm))) ∧
    (∀ rs rd, RegisterForm (.orWReg rs rd) s (fun t => OnlyWord s t rd (s.reg16 rd ||| s.reg16 rs))
      (testFlags (s.reg16 rd ||| s.reg16 rs))) ∧
    (∀ imm rd, RegisterForm (.orLImm imm rd) s (fun t => OnlyLong s t rd (s.er rd ||| imm))
      (testFlags (s.er rd ||| imm))) ∧
    (∀ rs rd, RegisterForm (.orLReg rs rd) s (fun t => OnlyLong s t rd (s.er rd ||| s.er rs))
      (testFlags (s.er rd ||| s.er rs))) ∧
    (∀ imm rd, RegisterForm (.xorBImm imm rd) s (fun t => OnlyByte s t rd (s.reg8 rd ^^^ imm))
      (testFlags (s.reg8 rd ^^^ imm))) ∧
    (∀ rs rd, RegisterForm (.xorBReg rs rd) s (fun t => OnlyByte s t rd (s.reg8 rd ^^^ s.reg8 rs))
      (testFlags (s.reg8 rd ^^^ s.reg8 rs))) ∧
    (∀ imm rd, RegisterForm (.xorWImm imm rd) s (fun t => OnlyWord s t rd (s.reg16 rd ^^^ imm))
      (testFlags (s.reg16 rd ^^^ imm))) ∧
    (∀ rs rd, RegisterForm (.xorWReg rs rd) s (fun t => OnlyWord s t rd (s.reg16 rd ^^^ s.reg16 rs))
      (testFlags (s.reg16 rd ^^^ s.reg16 rs))) ∧
    (∀ imm rd, RegisterForm (.xorLImm imm rd) s (fun t => OnlyLong s t rd (s.er rd ^^^ imm))
      (testFlags (s.er rd ^^^ imm))) ∧
    (∀ rs rd, RegisterForm (.xorLReg rs rd) s (fun t => OnlyLong s t rd (s.er rd ^^^ s.er rs))
      (testFlags (s.er rd ^^^ s.er rs))) ∧
    (∀ rd, RegisterForm (.notB rd) s (fun t => OnlyByte s t rd (~~~s.reg8 rd)) (testFlags (~~~s.reg8 rd))) ∧
    (∀ rd, RegisterForm (.notW rd) s (fun t => OnlyWord s t rd (~~~s.reg16 rd)) (testFlags (~~~s.reg16 rd))) ∧
    (∀ rd, RegisterForm (.notL rd) s (fun t => OnlyLong s t rd (~~~s.er rd)) (testFlags (~~~s.er rd)))

/-- The table of R322: what enters, what leaves to C, and V. -/
def Obligations.ShiftsAndRotatesByOneBit : Prop :=
  ∀ (s : State),
    LeftShifts .shalB .shalW .shalL s (fun _ _ => false) (fun top next => top != next) ∧
    LeftShifts .shllB .shllW .shllL s (fun _ _ => false) (fun _ _ => false) ∧
    RightShifts .sharB .sharW .sharL s (fun top _ _ => top) ∧
    RightShifts .shlrB .shlrW .shlrL s (fun _ _ _ => false) ∧
    LeftShifts .rotlB .rotlW .rotlL s (fun top _ => top) (fun _ _ => false) ∧
    RightShifts .rotrB .rotrW .rotrL s (fun _ low _ => low) ∧
    LeftShifts .rotxlB .rotxlW .rotxlL s (fun _ c => c) (fun _ _ => false) ∧
    RightShifts .rotxrB .rotxrW .rotxrL s (fun _ _ c => c)

/-- BSET, BCLR, BNOT (R365 to R370), BST, BIST (R381, R382), with R361 and R363. That a byte of a device is unchanged
by a write is the model's choice (DESIGN CHOICE, log 7): it holds no state of a device, while D29 lets the write reach
it. -/
def Obligations.BitWritesChangeOneBit : Prop :=
  ∀ (s : State),
    (∀ imm rd, ReplacesRegisterBit (.bsetImmReg imm rd) s rd imm.toNat (fun _ => true)) ∧
    (∀ imm erd, ReplacesMemoryBit (.bsetImmInd imm erd) s (s.eaInd erd) imm.toNat (fun _ => true)) ∧
    (∀ imm abs, ReplacesMemoryBit (.bsetImmAbs8 imm abs) s (eaAbs8 abs) imm.toNat (fun _ => true)) ∧
    (∀ rn rd, ReplacesRegisterBit (.bsetRegReg rn rd) s rd ((s.reg8 rn).toNat % 8) (fun _ => true)) ∧
    (∀ rn erd, ReplacesMemoryBit (.bsetRegInd rn erd) s (s.eaInd erd) ((s.reg8 rn).toNat % 8) (fun _ => true)) ∧
    (∀ rn abs, ReplacesMemoryBit (.bsetRegAbs8 rn abs) s (eaAbs8 abs) ((s.reg8 rn).toNat % 8) (fun _ => true)) ∧
    (∀ imm rd, ReplacesRegisterBit (.bclrImmReg imm rd) s rd imm.toNat (fun _ => false)) ∧
    (∀ imm erd, ReplacesMemoryBit (.bclrImmInd imm erd) s (s.eaInd erd) imm.toNat (fun _ => false)) ∧
    (∀ imm abs, ReplacesMemoryBit (.bclrImmAbs8 imm abs) s (eaAbs8 abs) imm.toNat (fun _ => false)) ∧
    (∀ rn rd, ReplacesRegisterBit (.bclrRegReg rn rd) s rd ((s.reg8 rn).toNat % 8) (fun _ => false)) ∧
    (∀ rn erd, ReplacesMemoryBit (.bclrRegInd rn erd) s (s.eaInd erd) ((s.reg8 rn).toNat % 8) (fun _ => false)) ∧
    (∀ rn abs, ReplacesMemoryBit (.bclrRegAbs8 rn abs) s (eaAbs8 abs) ((s.reg8 rn).toNat % 8) (fun _ => false)) ∧
    (∀ imm rd, ReplacesRegisterBit (.bnotImmReg imm rd) s rd imm.toNat (fun x => !x)) ∧
    (∀ imm erd, ReplacesMemoryBit (.bnotImmInd imm erd) s (s.eaInd erd) imm.toNat (fun x => !x)) ∧
    (∀ imm abs, ReplacesMemoryBit (.bnotImmAbs8 imm abs) s (eaAbs8 abs) imm.toNat (fun x => !x)) ∧
    (∀ rn rd, ReplacesRegisterBit (.bnotRegReg rn rd) s rd ((s.reg8 rn).toNat % 8) (fun x => !x)) ∧
    (∀ rn erd, ReplacesMemoryBit (.bnotRegInd rn erd) s (s.eaInd erd) ((s.reg8 rn).toNat % 8) (fun x => !x)) ∧
    (∀ rn abs, ReplacesMemoryBit (.bnotRegAbs8 rn abs) s (eaAbs8 abs) ((s.reg8 rn).toNat % 8) (fun x => !x)) ∧
    (∀ imm rd, ReplacesRegisterBit (.bstImmReg imm rd) s rd imm.toNat (fun _ => s.flag .c)) ∧
    (∀ imm erd, ReplacesMemoryBit (.bstImmInd imm erd) s (s.eaInd erd) imm.toNat (fun _ => s.flag .c)) ∧
    (∀ imm abs, ReplacesMemoryBit (.bstImmAbs8 imm abs) s (eaAbs8 abs) imm.toNat (fun _ => s.flag .c)) ∧
    (∀ imm rd, ReplacesRegisterBit (.bistImmReg imm rd) s rd imm.toNat (fun _ => !s.flag .c)) ∧
    (∀ imm erd, ReplacesMemoryBit (.bistImmInd imm erd) s (s.eaInd erd) imm.toNat (fun _ => !s.flag .c)) ∧
    (∀ imm abs, ReplacesMemoryBit (.bistImmAbs8 imm abs) s (eaAbs8 abs) imm.toNat (fun _ => !s.flag .c))

/-- BTST (R371, R372) and BAND, BIAND, BOR, BIOR, BXOR, BIXOR, BLD, BILD (R373 to R380) with the equations of R364.
That a byte of a device is unchanged by a read is the model's choice (DESIGN CHOICE, log 7): it holds no state of a
device, while D29 lets a read change it. -/
def Obligations.BitTestsAndCarryOperations : Prop :=
  ∀ (s : State),
    (∀ imm rd, FlagFromRegisterBit (.btstImmReg imm rd) s rd imm.toNat .z (fun b => !b)) ∧
    (∀ imm erd, FlagFromMemoryBit (.btstImmInd imm erd) s (s.eaInd erd) imm.toNat .z (fun b => !b)) ∧
    (∀ imm abs, FlagFromMemoryBit (.btstImmAbs8 imm abs) s (eaAbs8 abs) imm.toNat .z (fun b => !b)) ∧
    (∀ rn rd, FlagFromRegisterBit (.btstRegReg rn rd) s rd ((s.reg8 rn).toNat % 8) .z (fun b => !b)) ∧
    (∀ rn erd, FlagFromMemoryBit (.btstRegInd rn erd) s (s.eaInd erd) ((s.reg8 rn).toNat % 8) .z (fun b => !b)) ∧
    (∀ rn abs, FlagFromMemoryBit (.btstRegAbs8 rn abs) s (eaAbs8 abs) ((s.reg8 rn).toNat % 8) .z (fun b => !b)) ∧
    (∀ imm rd, FlagFromRegisterBit (.bandImmReg imm rd) s rd imm.toNat .c (fun b => s.flag .c && b)) ∧
    (∀ imm erd, FlagFromMemoryBit (.bandImmInd imm erd) s (s.eaInd erd) imm.toNat .c (fun b => s.flag .c && b)) ∧
    (∀ imm abs, FlagFromMemoryBit (.bandImmAbs8 imm abs) s (eaAbs8 abs) imm.toNat .c (fun b => s.flag .c && b)) ∧
    (∀ imm rd, FlagFromRegisterBit (.biandImmReg imm rd) s rd imm.toNat .c (fun b => s.flag .c && !b)) ∧
    (∀ imm erd, FlagFromMemoryBit (.biandImmInd imm erd) s (s.eaInd erd) imm.toNat .c (fun b => s.flag .c && !b)) ∧
    (∀ imm abs, FlagFromMemoryBit (.biandImmAbs8 imm abs) s (eaAbs8 abs) imm.toNat .c (fun b => s.flag .c && !b)) ∧
    (∀ imm rd, FlagFromRegisterBit (.borImmReg imm rd) s rd imm.toNat .c (fun b => s.flag .c || b)) ∧
    (∀ imm erd, FlagFromMemoryBit (.borImmInd imm erd) s (s.eaInd erd) imm.toNat .c (fun b => s.flag .c || b)) ∧
    (∀ imm abs, FlagFromMemoryBit (.borImmAbs8 imm abs) s (eaAbs8 abs) imm.toNat .c (fun b => s.flag .c || b)) ∧
    (∀ imm rd, FlagFromRegisterBit (.biorImmReg imm rd) s rd imm.toNat .c (fun b => s.flag .c || !b)) ∧
    (∀ imm erd, FlagFromMemoryBit (.biorImmInd imm erd) s (s.eaInd erd) imm.toNat .c (fun b => s.flag .c || !b)) ∧
    (∀ imm abs, FlagFromMemoryBit (.biorImmAbs8 imm abs) s (eaAbs8 abs) imm.toNat .c (fun b => s.flag .c || !b)) ∧
    (∀ imm rd, FlagFromRegisterBit (.bxorImmReg imm rd) s rd imm.toNat .c (fun b => (s.flag .c && !b) || (!s.flag .c && b))) ∧
    (∀ imm erd, FlagFromMemoryBit (.bxorImmInd imm erd) s (s.eaInd erd) imm.toNat .c (fun b => (s.flag .c && !b) || (!s.flag .c && b))) ∧
    (∀ imm abs, FlagFromMemoryBit (.bxorImmAbs8 imm abs) s (eaAbs8 abs) imm.toNat .c (fun b => (s.flag .c && !b) || (!s.flag .c && b))) ∧
    (∀ imm rd, FlagFromRegisterBit (.bixorImmReg imm rd) s rd imm.toNat .c (fun b => (s.flag .c && b) || (!s.flag .c && !b))) ∧
    (∀ imm erd, FlagFromMemoryBit (.bixorImmInd imm erd) s (s.eaInd erd) imm.toNat .c (fun b => (s.flag .c && b) || (!s.flag .c && !b))) ∧
    (∀ imm abs, FlagFromMemoryBit (.bixorImmAbs8 imm abs) s (eaAbs8 abs) imm.toNat .c (fun b => (s.flag .c && b) || (!s.flag .c && !b))) ∧
    (∀ imm rd, FlagFromRegisterBit (.bldImmReg imm rd) s rd imm.toNat .c (fun b => b)) ∧
    (∀ imm erd, FlagFromMemoryBit (.bldImmInd imm erd) s (s.eaInd erd) imm.toNat .c (fun b => b)) ∧
    (∀ imm abs, FlagFromMemoryBit (.bldImmAbs8 imm abs) s (eaAbs8 abs) imm.toNat .c (fun b => b)) ∧
    (∀ imm rd, FlagFromRegisterBit (.bildImmReg imm rd) s rd imm.toNat .c (fun b => !b)) ∧
    (∀ imm erd, FlagFromMemoryBit (.bildImmInd imm erd) s (s.eaInd erd) imm.toNat .c (fun b => !b)) ∧
    (∀ imm abs, FlagFromMemoryBit (.bildImmAbs8 imm abs) s (eaAbs8 abs) imm.toNat .c (fun b => !b))

/-- The sixteen conditions of R401 in the two sizes of R402 and R403; the wrap of PC and the cleared bit 0 of the
target are the decisions D5, D6, D7 (log 16). -/
def Obligations.ConditionalBranches : Prop :=
  ∀ (s : State) (d8 : BitVec 8) (d16 : BitVec 16),
    let near : Bool → Addr := fun taken =>
      if taken then evenAddr (s.am (s.pc + 2 + d8.signExtend 24)) else s.am (s.pc + 2)
    let far : Bool → Addr := fun taken =>
      if taken then evenAddr (s.am (s.pc + 4 + d16.signExtend 24)) else s.am (s.pc + 4)
    JumpForm (.braD8 d8) s (near (true)) ∧ JumpForm (.braD16 d16) s (far (true)) ∧
    JumpForm (.brnD8 d8) s (near (false)) ∧ JumpForm (.brnD16 d16) s (far (false)) ∧
    JumpForm (.bhiD8 d8) s (near (!(s.flag .c || s.flag .z))) ∧ JumpForm (.bhiD16 d16) s (far (!(s.flag .c || s.flag .z))) ∧
    JumpForm (.blsD8 d8) s (near (s.flag .c || s.flag .z)) ∧ JumpForm (.blsD16 d16) s (far (s.flag .c || s.flag .z)) ∧
    JumpForm (.bccD8 d8) s (near (!s.flag .c)) ∧ JumpForm (.bccD16 d16) s (far (!s.flag .c)) ∧
    JumpForm (.bcsD8 d8) s (near (s.flag .c)) ∧ JumpForm (.bcsD16 d16) s (far (s.flag .c)) ∧
    JumpForm (.bneD8 d8) s (near (!s.flag .z)) ∧ JumpForm (.bneD16 d16) s (far (!s.flag .z)) ∧
    JumpForm (.beqD8 d8) s (near (s.flag .z)) ∧ JumpForm (.beqD16 d16) s (far (s.flag .z)) ∧
    JumpForm (.bvcD8 d8) s (near (!s.flag .v)) ∧ JumpForm (.bvcD16 d16) s (far (!s.flag .v)) ∧
    JumpForm (.bvsD8 d8) s (near (s.flag .v)) ∧ JumpForm (.bvsD16 d16) s (far (s.flag .v)) ∧
    JumpForm (.bplD8 d8) s (near (!s.flag .n)) ∧ JumpForm (.bplD16 d16) s (far (!s.flag .n)) ∧
    JumpForm (.bmiD8 d8) s (near (s.flag .n)) ∧ JumpForm (.bmiD16 d16) s (far (s.flag .n)) ∧
    JumpForm (.bgeD8 d8) s (near (!(s.flag .n ^^ s.flag .v))) ∧ JumpForm (.bgeD16 d16) s (far (!(s.flag .n ^^ s.flag .v))) ∧
    JumpForm (.bltD8 d8) s (near (s.flag .n ^^ s.flag .v)) ∧ JumpForm (.bltD16 d16) s (far (s.flag .n ^^ s.flag .v)) ∧
    JumpForm (.bgtD8 d8) s (near (!(s.flag .z || (s.flag .n ^^ s.flag .v)))) ∧ JumpForm (.bgtD16 d16) s (far (!(s.flag .z || (s.flag .n ^^ s.flag .v)))) ∧
    JumpForm (.bleD8 d8) s (near (s.flag .z || (s.flag .n ^^ s.flag .v))) ∧ JumpForm (.bleD16 d16) s (far (s.flag .z || (s.flag .n ^^ s.flag .v)))

/-- JMP (R407 to R409), memory indirect (R151). That a byte of a device is unchanged by a read is the model's choice
(DESIGN CHOICE, log 7): it holds no state of a device, while D29 lets a read change it. -/
def Obligations.JumpsGoToTheirTarget : Prop :=
  ∀ (s : State),
    (∀ n, JumpForm (.jmpInd n) s (evenAddr (s.am (s.eaInd n)))) ∧
    (∀ abs, JumpForm (.jmpAbs24 abs) s (evenAddr (s.am abs))) ∧
    (∀ abs, ∃ v, EntryRead s (eaMemInd abs) v ∧
      Answers (.jmpMemInd abs) s fun t => t.pc = evenAddr (s.am v) ∧ SameRegisters s t ∧ FlagsBecome s t [] ∧
        (Quiet s → SameMemory s t) ∧ SameControl s t ∧ SameOutside s t)

/-- BSR (R405, R406), JSR (R410 to R412) with the frame of R404; its reserved byte is open (D10, log 12). That a byte
of a device is unchanged by a write is the model's choice (DESIGN CHOICE, log 7): it holds no state of a device, while
D29 lets the write reach it. -/
def Obligations.CallsPushTheReturnAddress : Prop :=
  ∀ (s : State),
    (∀ disp, CallForm (.bsrD8 disp) s (s.pc + 2 + disp.signExtend 24)) ∧
    (∀ disp, CallForm (.bsrD16 disp) s (s.pc + 4 + disp.signExtend 24)) ∧
    (∀ n, CallForm (.jsrInd n) s (s.eaInd n)) ∧
    (∀ abs, CallForm (.jsrAbs24 abs) s abs) ∧
    (∀ abs, ∃ v, EntryRead s (eaMemInd abs) v ∧ CallForm (.jsrMemInd abs) s v)

/-- RTS (R413) with the frame of R404. That a byte of a device is unchanged by a read is the model's choice (DESIGN
CHOICE, log 7): it holds no state of a device, while D29 lets a read change it. -/
def Obligations.ReturnFromSubroutine : Prop :=
  ∀ (s : State), ∃ v, EntryRead s (low24 s.sp) v ∧
    Answers .rts s fun t => t.pc = evenAddr (s.am v) ∧ OnlyLong s t 7#3 (s.sp + s.frameSize) ∧ FlagsBecome s t [] ∧
      (Quiet s → SameMemory s t) ∧ SameControl s t ∧ SameOutside s t

/-- The frame that R404 pushes is the one R413 pops. -/
def Obligations.CallThenReturnComesBack : Prop :=
  ∀ (s : State) (i : Instr), s.pc.getLsbD 0 = false → Quiet s → s.memMap = [] →
    ((∃ disp, i = .bsrD8 disp) ∨ (∃ disp, i = .bsrD16 disp) ∨ (∃ n, i = .jsrInd n) ∨ (∃ abs, i = .jsrAbs24 abs) ∨
      ∃ abs, i = .jsrMemInd abs) →
    Answers i s fun t => Answers .rts t fun u =>
      u.pc = s.am (s.pc + BitVec.ofNat 24 i.length) ∧ SameRegisters s u ∧ FlagsBecome s u []

/-- TRAPA (R431) with the vectors of R486 and the entry sequence of R487, R488; the companion byte is open (D11, log
13); UI as a mask bit is set too (D2, D20; log 25). That a byte of a device is unchanged by an access is the model's
choice (DESIGN CHOICE, log 7): it holds no state of a device, while D29 lets an access change it. -/
def Obligations.TrapTakesTheException : Prop :=
  ∀ (s : State) (imm : BitVec 2),
    Answers (.trapa imm) s fun t =>
      ExceptionTaken s t (s.am (s.pc + 2))
        (match s.mode with
          | .normal => BitVec.ofNat 24 (0x10 + 2 * imm.toNat)
          | .advanced => BitVec.ofNat 24 (0x20 + 4 * imm.toNat)) ∧
      t.inhibitInt = s.inhibitInt ∧ t.nmiDue = s.nmiDue ∧ SameOutside s t

/-- RTE (R432) with the frame of R487. That a byte of a device is unchanged by a read is the model's choice (DESIGN
CHOICE, log 7): it holds no state of a device, while D29 lets a read change it. -/
def Obligations.ReturnFromException : Prop :=
  ∀ (s : State), ∃ h l, WordRead s (low24 s.sp) h ∧ WordRead s (low24 s.sp + 2) l ∧
    Answers .rte s fun t => t.ccr = h.extractLsb' 8 8 ∧
      t.pc = evenAddr (s.am (match s.mode with
        | .normal => l.setWidth 24
        | .advanced => h.extractLsb' 0 8 ++ l)) ∧
      OnlyLong s t 7#3 (s.sp + 4) ∧ (Quiet s → SameMemory s t) ∧ SameControl s t ∧ SameOutside s t

/-- The frame that R487 pushes is the one RTE pops (R495). -/
def Obligations.TrapThenReturnComesBack : Prop :=
  ∀ (s : State) (imm : BitVec 2), s.pc.getLsbD 0 = false → Quiet s → s.memMap = [] →
    Answers (.trapa imm) s fun t => Answers .rte t fun u =>
      u.pc = s.am (s.pc + 2) ∧ u.ccr = s.ccr ∧ SameRegisters s u

/-- SLEEP (R433, R500, R501) and NOP (R455). R501 holds the registers and RAM and puts the peripheral modules in their
reset state: that a byte of a device is unchanged too is the model's choice (DESIGN CHOICE, log 7), which holds no
state of one. -/
def Obligations.SleepAndNop : Prop :=
  ∀ (s : State),
    (Answers .sleep s fun t => t.proc = (if s.ssby = true then .softwareStandby else .sleep) ∧ SameRegisters s t ∧
      t.ccr = s.ccr ∧ SameMemory s t ∧ t.pc = s.am (s.pc + 2) ∧ t.inhibitInt = s.inhibitInt ∧
      t.nmiDue = s.nmiDue ∧ t.stale = s.stale ∧ SameOutside s t) ∧
    RegisterForm .nop s (SameRegisters s) []

/-- LDC.B (R434, R435), ANDC, ORC, XORC (R452 to R454), the inhibition (R456, R491). -/
def Obligations.CcrIsWrittenWholeAndInhibits : Prop :=
  ∀ (s : State),
    (∀ imm, CcrForm (.ldcBImm imm) s (SameRegisters s) imm) ∧
    (∀ rs, CcrForm (.ldcBReg rs) s (SameRegisters s) (s.reg8 rs)) ∧
    (∀ imm, ∃ v : Byte, (∀ k, v.getLsbD k = (s.ccr.getLsbD k && imm.getLsbD k)) ∧
      CcrForm (.andc imm) s (SameRegisters s) v) ∧
    (∀ imm, ∃ v : Byte, (∀ k, v.getLsbD k = (s.ccr.getLsbD k || imm.getLsbD k)) ∧
      CcrForm (.orc imm) s (SameRegisters s) v) ∧
    (∀ imm, ∃ v : Byte, (∀ k, v.getLsbD k = (s.ccr.getLsbD k ^^ imm.getLsbD k)) ∧
      CcrForm (.xorc imm) s (SameRegisters s) v)

/-- LDC.W (R436 to R442). That a byte of a device is unchanged by a read is the model's choice (DESIGN CHOICE, log 7):
it holds no state of a device, while D29 lets a read change it. -/
def Obligations.CcrLoadsFromMemory : Prop :=
  ∀ (s : State),
    (∀ ers, ∃ x, WordRead s (s.eaInd ers) x ∧
      CcrForm (.ldcWLoadInd ers) s (SameRegisters s) (x.extractLsb' 8 8)) ∧
    (∀ disp ers, ∃ x, WordRead s (s.eaDisp16 disp ers) x ∧
      CcrForm (.ldcWLoadDisp16 disp ers) s (SameRegisters s) (x.extractLsb' 8 8)) ∧
    (∀ disp ers, ∃ x, WordRead s (s.eaDisp24 disp ers) x ∧
      CcrForm (.ldcWLoadDisp24 disp ers) s (SameRegisters s) (x.extractLsb' 8 8)) ∧
    (∀ abs, ∃ x, WordRead s (eaAbs16 abs) x ∧
      CcrForm (.ldcWLoadAbs16 abs) s (SameRegisters s) (x.extractLsb' 8 8)) ∧
    (∀ abs, ∃ x, WordRead s (eaAbs24 abs) x ∧
      CcrForm (.ldcWLoadAbs24 abs) s (SameRegisters s) (x.extractLsb' 8 8)) ∧
    (∀ ers, ∃ x, WordRead s (s.eaInd ers) x ∧
      CcrForm (.ldcWLoadPostInc ers) s (fun t => OnlyLong s t ers (s.er ers + 2)) (x.extractLsb' 8 8))

/-- STC.B (R443), STC.W (R444 to R451); the odd byte is open (R447, D9, log 11). That a byte of a device is unchanged
by a write is the model's choice (DESIGN CHOICE, log 7): it holds no state of a device, while D29 lets the write reach
it. -/
def Obligations.CcrStores : Prop :=
  ∀ (s : State),
    (∀ rd, RegisterForm (.stcBReg rd) s (fun t => OnlyByte s t rd s.ccr) []) ∧
    (∀ erd, StoreForm (.stcWStoreInd erd) s (SameRegisters s) []
      [(s.wordBase (s.eaInd erd), s.ccr)] [s.wordBase (s.eaInd erd) ||| 1#24]) ∧
    (∀ disp erd, StoreForm (.stcWStoreDisp16 disp erd) s (SameRegisters s) []
      [(s.wordBase (s.eaDisp16 disp erd), s.ccr)] [s.wordBase (s.eaDisp16 disp erd) ||| 1#24]) ∧
    (∀ disp erd, StoreForm (.stcWStoreDisp24 disp erd) s (SameRegisters s) []
      [(s.wordBase (s.eaDisp24 disp erd), s.ccr)] [s.wordBase (s.eaDisp24 disp erd) ||| 1#24]) ∧
    (∀ abs, StoreForm (.stcWStoreAbs16 abs) s (SameRegisters s) []
      [(s.wordBase (eaAbs16 abs), s.ccr)] [s.wordBase (eaAbs16 abs) ||| 1#24]) ∧
    (∀ abs, StoreForm (.stcWStoreAbs24 abs) s (SameRegisters s) []
      [(s.wordBase (eaAbs24 abs), s.ccr)] [s.wordBase (eaAbs24 abs) ||| 1#24]) ∧
    (∀ erd, let p := s.er erd - 2
      StoreForm (.stcWStorePreDec erd) s (fun t => OnlyLong s t erd p) []
        [(s.wordBase (low24 p), s.ccr)] [s.wordBase (low24 p) ||| 1#24])

/-- EEPMOV.B (R470, R473, R474). -/
def Obligations.BlockTransferOfBytes : Prop :=
  ∀ (s : State), let n := (s.reg8 (.l 4#3)).toNat
    Answers .eepmovB s fun t => BlockPointers s t n ∧ t.reg8 (.l 4#3) = 0 ∧ t.reg8 (.h 4#3) = s.reg8 (.h 4#3) ∧
      FlagsBecome s t [] ∧ Proceeds .eepmovB s t ∧
      (Quiet s → s.memMap = [] → ∀ a, t.peek a = copyForward s s.peek (s.eaInd 5#3) (s.eaInd 6#3) n a)

/-- EEPMOV.W (R471 to R474, D23). How the schedule says when an NMI comes is the model's choice (log 20). -/
def Obligations.BlockTransferOfWordsCount : Prop :=
  ∀ (s : State), let n := s.eepmovCount
    Answers .eepmovW s fun t => BlockPointers s t n ∧
      t.reg16 (.r 4#3) = s.reg16 (.r 4#3) - BitVec.ofNat 16 n ∧ FlagsBecome s t [] ∧ t.pc = s.am (s.pc + 4) ∧
      t.nmiDue = s.eepmovDue ∧ t.proc = s.proc ∧ t.inhibitInt = s.inhibitInt ∧ t.stale = s.stale ∧ SameOutside s t ∧
      (Quiet s → s.memMap = [] → ∀ a, t.peek a = copyForward s s.peek (s.eaInd 5#3) (s.eaInd 6#3) n a)

/-- Interrupt acceptance and entry (R489, R490, R492, R498), which vectors an interrupt may use (R483, D3), and the
entry that follows a cut EEPMOV.W at once (R472, D23). The model's choice: a normal-mode vector address above H'FFFF
is checked and taken through its low 16 bits (DESIGN CHOICE, log 26), and a late NMI of this step joins the pending
requests (DESIGN CHOICE, logs 19, 20). UI is set as a mask bit by log 25. That a byte of a device is unchanged by an
access is the model's choice (DESIGN CHOICE, log 7): it holds no state of a device, while D29 lets an access change
it. -/
def Obligations.AcceptedInterruptIsTaken : Prop :=
  ∀ (s : State),
    (∀ before after r, Undisturbed s → s.proc = .programExecution → s.nmiDue = none → s.inhibitInt = false →
      Foremost s before r after →
      (s.vectorAllowed r.vector = true →
        ∃ t, step s = .next t ∧ ExceptionTaken s t s.pc r.vector ∧ t.inhibitInt = false ∧
          t.pending = before ++ after ++ (s.lateNmi.map fun x => x.2).toList) ∧
      (s.vectorAllowed r.vector = false → step s = .refused .illegalVector)) ∧
    (∀ r, let u := s.sample.1
      s.proc = .programExecution → s.nmiDue = some r → u.stbyLow = false → u.resLow = false → u.busReq = false →
      (s.vectorAllowed r.vector = true →
        ∃ t, step s = .next t ∧ ExceptionTaken u t s.pc r.vector ∧ t.nmiDue = none ∧
          t.pending = u.pending.erase r ++ (u.lateNmi.map fun x => x.2).toList) ∧
      (s.vectorAllowed r.vector = false → step s = .refused .illegalVector))

/-- R500, R501, D19 (DEDUCED, log 24). The model's choice: a normal-mode vector address above H'FFFF is taken through
its low 16 bits (DESIGN CHOICE, log 26), and settle ends the inputs of the step, a late NMI joining the pending
requests (DESIGN CHOICE, logs 19, 20). R501 has the peripheral modules in their reset state meanwhile, of which the
model holds nothing (log 7). That a byte of a device is unchanged by an access is the model's choice (DESIGN CHOICE,
log 7): it holds no state of a device, while D29 lets an access change it. -/
def Obligations.SleepLastsUntilAnAcceptedRequest : Prop :=
  ∀ (s : State), Undisturbed s →
    (s.proc = .sleep → (∀ r ∈ s.pending, Masked s r) → step s = .next s.settle) ∧
    (s.proc = .softwareStandby → (∀ r ∈ s.pending, KeepsStandby s r) → step s = .next s.settle) ∧
    (∀ before r after, s.proc = .sleep → Foremost s before r after → s.vectorAllowed r.vector = true →
      ∃ t, step s = .next t ∧ ExceptionTaken s t s.pc r.vector) ∧
    (∀ before r after, s.proc = .softwareStandby → Awakening s before r after → s.vectorAllowed r.vector = true →
      ∃ t, step s = .next t ∧ ExceptionTaken s t s.pc r.vector)

/-- R44, R485, R530; nothing is pushed. That a byte of a device is unchanged by a read is the model's choice (DESIGN
CHOICE, log 7): it holds no state of a device, while D29 lets a read change it. -/
def Obligations.ResetLoadsTheVector : Prop :=
  ∀ (s : State), Undisturbed s → s.proc = .reset →
    ∃ t v, step s = .next t ∧ EntryRead s 0 v ∧ t.pc = evenAddr (s.am v) ∧ t.flag .i = true ∧
      t.inhibitInt = true ∧ t.proc = .programExecution ∧ t.stale = [] ∧ (Quiet s → SameMemory s t)

/-- R480, R493, R502, R530. That hardware standby and the reset state keep the registers, CCR and PC is the model's
choice, not the spec's (logs 22, 23; R502, U21, D8, D28); so is how hardware standby is left (D28, log 22). That a
byte of a device is unchanged is the model's choice too (DESIGN CHOICE, log 7): R502 puts the peripheral modules in
their reset state and R532 leaves their reset values open; so is that memory outside the LSI is unchanged in hardware
standby (log 22), where R502 holds on-chip RAM only. -/
def Obligations.PinsOverrideEverything : Prop :=
  ∀ (s : State), s.env = [] →
    (s.stbyLow = true → ∃ t, step s = .next t ∧ t.proc = .hardwareStandby ∧ SameRegisters s t ∧ t.ccr = s.ccr ∧
      t.pc = s.pc ∧ SameMemory s t) ∧
    (s.stbyLow = false → s.resLow = true → ∃ t, step s = .next t ∧ t.proc = .reset ∧ FlagsBecome s t [(.i, true)] ∧
      t.stale = [] ∧ SameRegisters s t ∧ t.pc = s.pc ∧ SameMemory s t) ∧
    (s.stbyLow = false → s.resLow = false → s.proc = .hardwareStandby → step s = .next s.settle)

/-- R503, R79, D13. The clause on the other master's write is the model's choice: its time at the boundary, the memory
map and the wrap by the mode (DESIGN CHOICE, log 21). That the inhibition is kept is the model's too (DEDUCED, log
31), and so is the schedule (log 19). That a byte of a device is unchanged by a write is the model's choice (DESIGN
CHOICE, log 7): it holds no state of a device, while D29 lets the write reach it. -/
def Obligations.BusReleaseChangesNoCpuState : Prop :=
  ∀ (s : State), (s.proc = .programExecution ∨ s.proc = .busReleased) →
    (∀ k ks, s.env = k :: ks → k.resLow = false → k.stbyLow = false →
      (k.busReq = true →
        ∃ t, step s = .next t ∧ t.proc = .busReleased ∧ SameCpu s t ∧ (∀ r ∈ k.present.getD s.pending, r ∈ t.pending) ∧
          (k.busWrites = [] → SameMemory s t) ∧
          ∀ a x, k.busWrites = [(a, x)] → Stored s t (byteCells s (BitVec.ofNat 24 a) x) []) ∧
      (k.busReq = false → s.proc = .busReleased →
        ∃ t, step s = .next t ∧ t.proc = .programExecution ∧ SameCpu s t ∧ SameMemory s t)) ∧
    (s.env = [] → s.resLow = false → s.stbyLow = false →
      (s.busReq = true →
        ∃ t, step s = .next t ∧ t.proc = .busReleased ∧ SameCpu s t ∧ (∀ r ∈ s.pending, r ∈ t.pending) ∧
          SameMemory s t) ∧
      (s.busReq = false → s.proc = .busReleased →
        ∃ t, step s = .next t ∧ t.proc = .programExecution ∧ SameCpu s t ∧ SameMemory s t))
end

