-- ==== Sys2Proof/Laws/State.lean ====
section
/-! SUPPORT. One lemma per field per update of the state, so that no later proof unfolds a record update. -/

namespace Sys2Proof.Machine

variable (s : State)

/-! ### setEr -/

@[simp] theorem State.setEr_regs (n : ERn) (x : Long) : (s.setEr n x).regs = s.regs.set n x := rfl
@[simp] theorem State.setEr_pc (n : ERn) (x : Long) : (s.setEr n x).pc = s.pc := rfl
@[simp] theorem State.setEr_ccr (n : ERn) (x : Long) : (s.setEr n x).ccr = s.ccr := rfl
@[simp] theorem State.setEr_proc (n : ERn) (x : Long) : (s.setEr n x).proc = s.proc := rfl
@[simp] theorem State.setEr_inhibitInt (n : ERn) (x : Long) : (s.setEr n x).inhibitInt = s.inhibitInt := rfl
@[simp] theorem State.setEr_mem (n : ERn) (x : Long) : (s.setEr n x).mem = s.mem := rfl
@[simp] theorem State.setEr_stale (n : ERn) (x : Long) : (s.setEr n x).stale = s.stale := rfl
@[simp] theorem State.setEr_pending (n : ERn) (x : Long) : (s.setEr n x).pending = s.pending := rfl
@[simp] theorem State.setEr_lateNmi (n : ERn) (x : Long) : (s.setEr n x).lateNmi = s.lateNmi := rfl
@[simp] theorem State.setEr_nmiDue (n : ERn) (x : Long) : (s.setEr n x).nmiDue = s.nmiDue := rfl
@[simp] theorem State.setEr_busScript (n : ERn) (x : Long) : (s.setEr n x).busScript = s.busScript := rfl
@[simp] theorem State.setEr_resLow (n : ERn) (x : Long) : (s.setEr n x).resLow = s.resLow := rfl
@[simp] theorem State.setEr_stbyLow (n : ERn) (x : Long) : (s.setEr n x).stbyLow = s.stbyLow := rfl
@[simp] theorem State.setEr_busReq (n : ERn) (x : Long) : (s.setEr n x).busReq = s.busReq := rfl
@[simp] theorem State.setEr_ssby (n : ERn) (x : Long) : (s.setEr n x).ssby = s.ssby := rfl
@[simp] theorem State.setEr_mode (n : ERn) (x : Long) : (s.setEr n x).mode = s.mode := rfl
@[simp] theorem State.setEr_uiIsMask (n : ERn) (x : Long) : (s.setEr n x).uiIsMask = s.uiIsMask := rfl
@[simp] theorem State.setEr_hasEClock (n : ERn) (x : Long) : (s.setEr n x).hasEClock = s.hasEClock := rfl
@[simp] theorem State.setEr_memMap (n : ERn) (x : Long) : (s.setEr n x).memMap = s.memMap := rfl
@[simp] theorem State.setEr_env (n : ERn) (x : Long) : (s.setEr n x).env = s.env := rfl
@[simp] theorem State.setEr_draws (n : ERn) (x : Long) : (s.setEr n x).draws = s.draws := rfl

/-! ### setReg8 -/

@[simp] theorem State.setReg8_pc (r : Reg8) (x : Byte) : (s.setReg8 r x).pc = s.pc := by cases r <;> rfl
@[simp] theorem State.setReg8_ccr (r : Reg8) (x : Byte) : (s.setReg8 r x).ccr = s.ccr := by cases r <;> rfl
@[simp] theorem State.setReg8_proc (r : Reg8) (x : Byte) : (s.setReg8 r x).proc = s.proc := by cases r <;> rfl
@[simp] theorem State.setReg8_inhibitInt (r : Reg8) (x : Byte) : (s.setReg8 r x).inhibitInt = s.inhibitInt := by cases r <;> rfl
@[simp] theorem State.setReg8_mem (r : Reg8) (x : Byte) : (s.setReg8 r x).mem = s.mem := by cases r <;> rfl
@[simp] theorem State.setReg8_stale (r : Reg8) (x : Byte) : (s.setReg8 r x).stale = s.stale := by cases r <;> rfl
@[simp] theorem State.setReg8_pending (r : Reg8) (x : Byte) : (s.setReg8 r x).pending = s.pending := by cases r <;> rfl
@[simp] theorem State.setReg8_lateNmi (r : Reg8) (x : Byte) : (s.setReg8 r x).lateNmi = s.lateNmi := by cases r <;> rfl
@[simp] theorem State.setReg8_nmiDue (r : Reg8) (x : Byte) : (s.setReg8 r x).nmiDue = s.nmiDue := by cases r <;> rfl
@[simp] theorem State.setReg8_busScript (r : Reg8) (x : Byte) : (s.setReg8 r x).busScript = s.busScript := by cases r <;> rfl
@[simp] theorem State.setReg8_resLow (r : Reg8) (x : Byte) : (s.setReg8 r x).resLow = s.resLow := by cases r <;> rfl
@[simp] theorem State.setReg8_stbyLow (r : Reg8) (x : Byte) : (s.setReg8 r x).stbyLow = s.stbyLow := by cases r <;> rfl
@[simp] theorem State.setReg8_busReq (r : Reg8) (x : Byte) : (s.setReg8 r x).busReq = s.busReq := by cases r <;> rfl
@[simp] theorem State.setReg8_ssby (r : Reg8) (x : Byte) : (s.setReg8 r x).ssby = s.ssby := by cases r <;> rfl
@[simp] theorem State.setReg8_mode (r : Reg8) (x : Byte) : (s.setReg8 r x).mode = s.mode := by cases r <;> rfl
@[simp] theorem State.setReg8_uiIsMask (r : Reg8) (x : Byte) : (s.setReg8 r x).uiIsMask = s.uiIsMask := by cases r <;> rfl
@[simp] theorem State.setReg8_hasEClock (r : Reg8) (x : Byte) : (s.setReg8 r x).hasEClock = s.hasEClock := by cases r <;> rfl
@[simp] theorem State.setReg8_memMap (r : Reg8) (x : Byte) : (s.setReg8 r x).memMap = s.memMap := by cases r <;> rfl
@[simp] theorem State.setReg8_env (r : Reg8) (x : Byte) : (s.setReg8 r x).env = s.env := by cases r <;> rfl
@[simp] theorem State.setReg8_draws (r : Reg8) (x : Byte) : (s.setReg8 r x).draws = s.draws := by cases r <;> rfl

/-! ### setReg16 -/

@[simp] theorem State.setReg16_pc (r : Reg16) (x : Word) : (s.setReg16 r x).pc = s.pc := by cases r <;> rfl
@[simp] theorem State.setReg16_ccr (r : Reg16) (x : Word) : (s.setReg16 r x).ccr = s.ccr := by cases r <;> rfl
@[simp] theorem State.setReg16_proc (r : Reg16) (x : Word) : (s.setReg16 r x).proc = s.proc := by cases r <;> rfl
@[simp] theorem State.setReg16_inhibitInt (r : Reg16) (x : Word) : (s.setReg16 r x).inhibitInt = s.inhibitInt := by cases r <;> rfl
@[simp] theorem State.setReg16_mem (r : Reg16) (x : Word) : (s.setReg16 r x).mem = s.mem := by cases r <;> rfl
@[simp] theorem State.setReg16_stale (r : Reg16) (x : Word) : (s.setReg16 r x).stale = s.stale := by cases r <;> rfl
@[simp] theorem State.setReg16_pending (r : Reg16) (x : Word) : (s.setReg16 r x).pending = s.pending := by cases r <;> rfl
@[simp] theorem State.setReg16_lateNmi (r : Reg16) (x : Word) : (s.setReg16 r x).lateNmi = s.lateNmi := by cases r <;> rfl
@[simp] theorem State.setReg16_nmiDue (r : Reg16) (x : Word) : (s.setReg16 r x).nmiDue = s.nmiDue := by cases r <;> rfl
@[simp] theorem State.setReg16_busScript (r : Reg16) (x : Word) : (s.setReg16 r x).busScript = s.busScript := by cases r <;> rfl
@[simp] theorem State.setReg16_resLow (r : Reg16) (x : Word) : (s.setReg16 r x).resLow = s.resLow := by cases r <;> rfl
@[simp] theorem State.setReg16_stbyLow (r : Reg16) (x : Word) : (s.setReg16 r x).stbyLow = s.stbyLow := by cases r <;> rfl
@[simp] theorem State.setReg16_busReq (r : Reg16) (x : Word) : (s.setReg16 r x).busReq = s.busReq := by cases r <;> rfl
@[simp] theorem State.setReg16_ssby (r : Reg16) (x : Word) : (s.setReg16 r x).ssby = s.ssby := by cases r <;> rfl
@[simp] theorem State.setReg16_mode (r : Reg16) (x : Word) : (s.setReg16 r x).mode = s.mode := by cases r <;> rfl
@[simp] theorem State.setReg16_uiIsMask (r : Reg16) (x : Word) : (s.setReg16 r x).uiIsMask = s.uiIsMask := by cases r <;> rfl
@[simp] theorem State.setReg16_hasEClock (r : Reg16) (x : Word) : (s.setReg16 r x).hasEClock = s.hasEClock := by cases r <;> rfl
@[simp] theorem State.setReg16_memMap (r : Reg16) (x : Word) : (s.setReg16 r x).memMap = s.memMap := by cases r <;> rfl
@[simp] theorem State.setReg16_env (r : Reg16) (x : Word) : (s.setReg16 r x).env = s.env := by cases r <;> rfl
@[simp] theorem State.setReg16_draws (r : Reg16) (x : Word) : (s.setReg16 r x).draws = s.draws := by cases r <;> rfl

/-! ### setSp -/

@[simp] theorem State.setSp_regs (x : Long) : (s.setSp x).regs = s.regs.set 7#3 x := rfl
@[simp] theorem State.setSp_pc (x : Long) : (s.setSp x).pc = s.pc := rfl
@[simp] theorem State.setSp_ccr (x : Long) : (s.setSp x).ccr = s.ccr := rfl
@[simp] theorem State.setSp_proc (x : Long) : (s.setSp x).proc = s.proc := rfl
@[simp] theorem State.setSp_inhibitInt (x : Long) : (s.setSp x).inhibitInt = s.inhibitInt := rfl
@[simp] theorem State.setSp_mem (x : Long) : (s.setSp x).mem = s.mem := rfl
@[simp] theorem State.setSp_stale (x : Long) : (s.setSp x).stale = s.stale := rfl
@[simp] theorem State.setSp_pending (x : Long) : (s.setSp x).pending = s.pending := rfl
@[simp] theorem State.setSp_lateNmi (x : Long) : (s.setSp x).lateNmi = s.lateNmi := rfl
@[simp] theorem State.setSp_nmiDue (x : Long) : (s.setSp x).nmiDue = s.nmiDue := rfl
@[simp] theorem State.setSp_busScript (x : Long) : (s.setSp x).busScript = s.busScript := rfl
@[simp] theorem State.setSp_resLow (x : Long) : (s.setSp x).resLow = s.resLow := rfl
@[simp] theorem State.setSp_stbyLow (x : Long) : (s.setSp x).stbyLow = s.stbyLow := rfl
@[simp] theorem State.setSp_busReq (x : Long) : (s.setSp x).busReq = s.busReq := rfl
@[simp] theorem State.setSp_ssby (x : Long) : (s.setSp x).ssby = s.ssby := rfl
@[simp] theorem State.setSp_mode (x : Long) : (s.setSp x).mode = s.mode := rfl
@[simp] theorem State.setSp_uiIsMask (x : Long) : (s.setSp x).uiIsMask = s.uiIsMask := rfl
@[simp] theorem State.setSp_hasEClock (x : Long) : (s.setSp x).hasEClock = s.hasEClock := rfl
@[simp] theorem State.setSp_memMap (x : Long) : (s.setSp x).memMap = s.memMap := rfl
@[simp] theorem State.setSp_env (x : Long) : (s.setSp x).env = s.env := rfl
@[simp] theorem State.setSp_draws (x : Long) : (s.setSp x).draws = s.draws := rfl

/-! ### setCcr -/

@[simp] theorem State.setCcr_regs (c : Byte) : (s.setCcr c).regs = s.regs := rfl
@[simp] theorem State.setCcr_pc (c : Byte) : (s.setCcr c).pc = s.pc := rfl
@[simp] theorem State.setCcr_ccr (c : Byte) : (s.setCcr c).ccr = c := rfl
@[simp] theorem State.setCcr_proc (c : Byte) : (s.setCcr c).proc = s.proc := rfl
@[simp] theorem State.setCcr_inhibitInt (c : Byte) : (s.setCcr c).inhibitInt = s.inhibitInt := rfl
@[simp] theorem State.setCcr_mem (c : Byte) : (s.setCcr c).mem = s.mem := rfl
@[simp] theorem State.setCcr_stale (c : Byte) : (s.setCcr c).stale = s.stale := rfl
@[simp] theorem State.setCcr_pending (c : Byte) : (s.setCcr c).pending = s.pending := rfl
@[simp] theorem State.setCcr_lateNmi (c : Byte) : (s.setCcr c).lateNmi = s.lateNmi := rfl
@[simp] theorem State.setCcr_nmiDue (c : Byte) : (s.setCcr c).nmiDue = s.nmiDue := rfl
@[simp] theorem State.setCcr_busScript (c : Byte) : (s.setCcr c).busScript = s.busScript := rfl
@[simp] theorem State.setCcr_resLow (c : Byte) : (s.setCcr c).resLow = s.resLow := rfl
@[simp] theorem State.setCcr_stbyLow (c : Byte) : (s.setCcr c).stbyLow = s.stbyLow := rfl
@[simp] theorem State.setCcr_busReq (c : Byte) : (s.setCcr c).busReq = s.busReq := rfl
@[simp] theorem State.setCcr_ssby (c : Byte) : (s.setCcr c).ssby = s.ssby := rfl
@[simp] theorem State.setCcr_mode (c : Byte) : (s.setCcr c).mode = s.mode := rfl
@[simp] theorem State.setCcr_uiIsMask (c : Byte) : (s.setCcr c).uiIsMask = s.uiIsMask := rfl
@[simp] theorem State.setCcr_hasEClock (c : Byte) : (s.setCcr c).hasEClock = s.hasEClock := rfl
@[simp] theorem State.setCcr_memMap (c : Byte) : (s.setCcr c).memMap = s.memMap := rfl
@[simp] theorem State.setCcr_env (c : Byte) : (s.setCcr c).env = s.env := rfl
@[simp] theorem State.setCcr_draws (c : Byte) : (s.setCcr c).draws = s.draws := rfl

/-! ### setFlag -/

@[simp] theorem State.setFlag_regs (f : Flag) (b : Bool) : (s.setFlag f b).regs = s.regs := rfl
@[simp] theorem State.setFlag_pc (f : Flag) (b : Bool) : (s.setFlag f b).pc = s.pc := rfl
@[simp] theorem State.setFlag_ccr (f : Flag) (b : Bool) : (s.setFlag f b).ccr = ccrSet s.ccr f b := rfl
@[simp] theorem State.setFlag_proc (f : Flag) (b : Bool) : (s.setFlag f b).proc = s.proc := rfl
@[simp] theorem State.setFlag_inhibitInt (f : Flag) (b : Bool) : (s.setFlag f b).inhibitInt = s.inhibitInt := rfl
@[simp] theorem State.setFlag_mem (f : Flag) (b : Bool) : (s.setFlag f b).mem = s.mem := rfl
@[simp] theorem State.setFlag_stale (f : Flag) (b : Bool) : (s.setFlag f b).stale = s.stale := rfl
@[simp] theorem State.setFlag_pending (f : Flag) (b : Bool) : (s.setFlag f b).pending = s.pending := rfl
@[simp] theorem State.setFlag_lateNmi (f : Flag) (b : Bool) : (s.setFlag f b).lateNmi = s.lateNmi := rfl
@[simp] theorem State.setFlag_nmiDue (f : Flag) (b : Bool) : (s.setFlag f b).nmiDue = s.nmiDue := rfl
@[simp] theorem State.setFlag_busScript (f : Flag) (b : Bool) : (s.setFlag f b).busScript = s.busScript := rfl
@[simp] theorem State.setFlag_resLow (f : Flag) (b : Bool) : (s.setFlag f b).resLow = s.resLow := rfl
@[simp] theorem State.setFlag_stbyLow (f : Flag) (b : Bool) : (s.setFlag f b).stbyLow = s.stbyLow := rfl
@[simp] theorem State.setFlag_busReq (f : Flag) (b : Bool) : (s.setFlag f b).busReq = s.busReq := rfl
@[simp] theorem State.setFlag_ssby (f : Flag) (b : Bool) : (s.setFlag f b).ssby = s.ssby := rfl
@[simp] theorem State.setFlag_mode (f : Flag) (b : Bool) : (s.setFlag f b).mode = s.mode := rfl
@[simp] theorem State.setFlag_uiIsMask (f : Flag) (b : Bool) : (s.setFlag f b).uiIsMask = s.uiIsMask := rfl
@[simp] theorem State.setFlag_hasEClock (f : Flag) (b : Bool) : (s.setFlag f b).hasEClock = s.hasEClock := rfl
@[simp] theorem State.setFlag_memMap (f : Flag) (b : Bool) : (s.setFlag f b).memMap = s.memMap := rfl
@[simp] theorem State.setFlag_env (f : Flag) (b : Bool) : (s.setFlag f b).env = s.env := rfl
@[simp] theorem State.setFlag_draws (f : Flag) (b : Bool) : (s.setFlag f b).draws = s.draws := rfl

/-! ### moveFlags -/

@[simp] theorem State.moveFlags_regs {w : Nat} (v : BitVec w) : (s.moveFlags v).regs = s.regs := rfl
@[simp] theorem State.moveFlags_pc {w : Nat} (v : BitVec w) : (s.moveFlags v).pc = s.pc := rfl
@[simp] theorem State.moveFlags_ccr {w : Nat} (v : BitVec w) : (s.moveFlags v).ccr = ccrMove s.ccr v := rfl
@[simp] theorem State.moveFlags_proc {w : Nat} (v : BitVec w) : (s.moveFlags v).proc = s.proc := rfl
@[simp] theorem State.moveFlags_inhibitInt {w : Nat} (v : BitVec w) : (s.moveFlags v).inhibitInt = s.inhibitInt := rfl
@[simp] theorem State.moveFlags_mem {w : Nat} (v : BitVec w) : (s.moveFlags v).mem = s.mem := rfl
@[simp] theorem State.moveFlags_stale {w : Nat} (v : BitVec w) : (s.moveFlags v).stale = s.stale := rfl
@[simp] theorem State.moveFlags_pending {w : Nat} (v : BitVec w) : (s.moveFlags v).pending = s.pending := rfl
@[simp] theorem State.moveFlags_lateNmi {w : Nat} (v : BitVec w) : (s.moveFlags v).lateNmi = s.lateNmi := rfl
@[simp] theorem State.moveFlags_nmiDue {w : Nat} (v : BitVec w) : (s.moveFlags v).nmiDue = s.nmiDue := rfl
@[simp] theorem State.moveFlags_busScript {w : Nat} (v : BitVec w) : (s.moveFlags v).busScript = s.busScript := rfl
@[simp] theorem State.moveFlags_resLow {w : Nat} (v : BitVec w) : (s.moveFlags v).resLow = s.resLow := rfl
@[simp] theorem State.moveFlags_stbyLow {w : Nat} (v : BitVec w) : (s.moveFlags v).stbyLow = s.stbyLow := rfl
@[simp] theorem State.moveFlags_busReq {w : Nat} (v : BitVec w) : (s.moveFlags v).busReq = s.busReq := rfl
@[simp] theorem State.moveFlags_ssby {w : Nat} (v : BitVec w) : (s.moveFlags v).ssby = s.ssby := rfl
@[simp] theorem State.moveFlags_mode {w : Nat} (v : BitVec w) : (s.moveFlags v).mode = s.mode := rfl
@[simp] theorem State.moveFlags_uiIsMask {w : Nat} (v : BitVec w) : (s.moveFlags v).uiIsMask = s.uiIsMask := rfl
@[simp] theorem State.moveFlags_hasEClock {w : Nat} (v : BitVec w) : (s.moveFlags v).hasEClock = s.hasEClock := rfl
@[simp] theorem State.moveFlags_memMap {w : Nat} (v : BitVec w) : (s.moveFlags v).memMap = s.memMap := rfl
@[simp] theorem State.moveFlags_env {w : Nat} (v : BitVec w) : (s.moveFlags v).env = s.env := rfl
@[simp] theorem State.moveFlags_draws {w : Nat} (v : BitVec w) : (s.moveFlags v).draws = s.draws := rfl

/-! ### setNZ -/

@[simp] theorem State.setNZ_regs (n z : Bool) : (s.setNZ n z).regs = s.regs := rfl
@[simp] theorem State.setNZ_pc (n z : Bool) : (s.setNZ n z).pc = s.pc := rfl
@[simp] theorem State.setNZ_ccr (n z : Bool) : (s.setNZ n z).ccr = ccrNZ s.ccr n z := rfl
@[simp] theorem State.setNZ_proc (n z : Bool) : (s.setNZ n z).proc = s.proc := rfl
@[simp] theorem State.setNZ_inhibitInt (n z : Bool) : (s.setNZ n z).inhibitInt = s.inhibitInt := rfl
@[simp] theorem State.setNZ_mem (n z : Bool) : (s.setNZ n z).mem = s.mem := rfl
@[simp] theorem State.setNZ_stale (n z : Bool) : (s.setNZ n z).stale = s.stale := rfl
@[simp] theorem State.setNZ_pending (n z : Bool) : (s.setNZ n z).pending = s.pending := rfl
@[simp] theorem State.setNZ_lateNmi (n z : Bool) : (s.setNZ n z).lateNmi = s.lateNmi := rfl
@[simp] theorem State.setNZ_nmiDue (n z : Bool) : (s.setNZ n z).nmiDue = s.nmiDue := rfl
@[simp] theorem State.setNZ_busScript (n z : Bool) : (s.setNZ n z).busScript = s.busScript := rfl
@[simp] theorem State.setNZ_resLow (n z : Bool) : (s.setNZ n z).resLow = s.resLow := rfl
@[simp] theorem State.setNZ_stbyLow (n z : Bool) : (s.setNZ n z).stbyLow = s.stbyLow := rfl
@[simp] theorem State.setNZ_busReq (n z : Bool) : (s.setNZ n z).busReq = s.busReq := rfl
@[simp] theorem State.setNZ_ssby (n z : Bool) : (s.setNZ n z).ssby = s.ssby := rfl
@[simp] theorem State.setNZ_mode (n z : Bool) : (s.setNZ n z).mode = s.mode := rfl
@[simp] theorem State.setNZ_uiIsMask (n z : Bool) : (s.setNZ n z).uiIsMask = s.uiIsMask := rfl
@[simp] theorem State.setNZ_hasEClock (n z : Bool) : (s.setNZ n z).hasEClock = s.hasEClock := rfl
@[simp] theorem State.setNZ_memMap (n z : Bool) : (s.setNZ n z).memMap = s.memMap := rfl
@[simp] theorem State.setNZ_env (n z : Bool) : (s.setNZ n z).env = s.env := rfl
@[simp] theorem State.setNZ_draws (n z : Bool) : (s.setNZ n z).draws = s.draws := rfl

/-! ### draw -/

@[simp] theorem State.draw_regs : (s.draw.2).regs = s.regs := rfl
@[simp] theorem State.draw_pc : (s.draw.2).pc = s.pc := rfl
@[simp] theorem State.draw_ccr : (s.draw.2).ccr = s.ccr := rfl
@[simp] theorem State.draw_proc : (s.draw.2).proc = s.proc := rfl
@[simp] theorem State.draw_inhibitInt : (s.draw.2).inhibitInt = s.inhibitInt := rfl
@[simp] theorem State.draw_mem : (s.draw.2).mem = s.mem := rfl
@[simp] theorem State.draw_stale : (s.draw.2).stale = s.stale := rfl
@[simp] theorem State.draw_pending : (s.draw.2).pending = s.pending := rfl
@[simp] theorem State.draw_lateNmi : (s.draw.2).lateNmi = s.lateNmi := rfl
@[simp] theorem State.draw_nmiDue : (s.draw.2).nmiDue = s.nmiDue := rfl
@[simp] theorem State.draw_busScript : (s.draw.2).busScript = s.busScript := rfl
@[simp] theorem State.draw_resLow : (s.draw.2).resLow = s.resLow := rfl
@[simp] theorem State.draw_stbyLow : (s.draw.2).stbyLow = s.stbyLow := rfl
@[simp] theorem State.draw_busReq : (s.draw.2).busReq = s.busReq := rfl
@[simp] theorem State.draw_ssby : (s.draw.2).ssby = s.ssby := rfl
@[simp] theorem State.draw_mode : (s.draw.2).mode = s.mode := rfl
@[simp] theorem State.draw_uiIsMask : (s.draw.2).uiIsMask = s.uiIsMask := rfl
@[simp] theorem State.draw_hasEClock : (s.draw.2).hasEClock = s.hasEClock := rfl
@[simp] theorem State.draw_memMap : (s.draw.2).memMap = s.memMap := rfl
@[simp] theorem State.draw_env : (s.draw.2).env = s.env := rfl
@[simp] theorem State.draw_draws : (s.draw.2).draws = s.draws + 1 := rfl

/-! ### drawByte -/

@[simp] theorem State.drawByte_regs : (s.drawByte.2).regs = s.regs := rfl
@[simp] theorem State.drawByte_pc : (s.drawByte.2).pc = s.pc := rfl
@[simp] theorem State.drawByte_ccr : (s.drawByte.2).ccr = s.ccr := rfl
@[simp] theorem State.drawByte_proc : (s.drawByte.2).proc = s.proc := rfl
@[simp] theorem State.drawByte_inhibitInt : (s.drawByte.2).inhibitInt = s.inhibitInt := rfl
@[simp] theorem State.drawByte_mem : (s.drawByte.2).mem = s.mem := rfl
@[simp] theorem State.drawByte_stale : (s.drawByte.2).stale = s.stale := rfl
@[simp] theorem State.drawByte_pending : (s.drawByte.2).pending = s.pending := rfl
@[simp] theorem State.drawByte_lateNmi : (s.drawByte.2).lateNmi = s.lateNmi := rfl
@[simp] theorem State.drawByte_nmiDue : (s.drawByte.2).nmiDue = s.nmiDue := rfl
@[simp] theorem State.drawByte_busScript : (s.drawByte.2).busScript = s.busScript := rfl
@[simp] theorem State.drawByte_resLow : (s.drawByte.2).resLow = s.resLow := rfl
@[simp] theorem State.drawByte_stbyLow : (s.drawByte.2).stbyLow = s.stbyLow := rfl
@[simp] theorem State.drawByte_busReq : (s.drawByte.2).busReq = s.busReq := rfl
@[simp] theorem State.drawByte_ssby : (s.drawByte.2).ssby = s.ssby := rfl
@[simp] theorem State.drawByte_mode : (s.drawByte.2).mode = s.mode := rfl
@[simp] theorem State.drawByte_uiIsMask : (s.drawByte.2).uiIsMask = s.uiIsMask := rfl
@[simp] theorem State.drawByte_hasEClock : (s.drawByte.2).hasEClock = s.hasEClock := rfl
@[simp] theorem State.drawByte_memMap : (s.drawByte.2).memMap = s.memMap := rfl
@[simp] theorem State.drawByte_env : (s.drawByte.2).env = s.env := rfl
@[simp] theorem State.drawByte_draws : (s.drawByte.2).draws = s.draws + 1 := rfl

/-! ### freeEr -/

@[simp] theorem State.freeEr_regs (n : ERn) : (s.freeEr n).regs = s.regs.set n s.draw.1 := rfl
@[simp] theorem State.freeEr_pc (n : ERn) : (s.freeEr n).pc = s.pc := rfl
@[simp] theorem State.freeEr_ccr (n : ERn) : (s.freeEr n).ccr = s.ccr := rfl
@[simp] theorem State.freeEr_proc (n : ERn) : (s.freeEr n).proc = s.proc := rfl
@[simp] theorem State.freeEr_inhibitInt (n : ERn) : (s.freeEr n).inhibitInt = s.inhibitInt := rfl
@[simp] theorem State.freeEr_mem (n : ERn) : (s.freeEr n).mem = s.mem := rfl
@[simp] theorem State.freeEr_stale (n : ERn) : (s.freeEr n).stale = s.stale := rfl
@[simp] theorem State.freeEr_pending (n : ERn) : (s.freeEr n).pending = s.pending := rfl
@[simp] theorem State.freeEr_lateNmi (n : ERn) : (s.freeEr n).lateNmi = s.lateNmi := rfl
@[simp] theorem State.freeEr_nmiDue (n : ERn) : (s.freeEr n).nmiDue = s.nmiDue := rfl
@[simp] theorem State.freeEr_busScript (n : ERn) : (s.freeEr n).busScript = s.busScript := rfl
@[simp] theorem State.freeEr_resLow (n : ERn) : (s.freeEr n).resLow = s.resLow := rfl
@[simp] theorem State.freeEr_stbyLow (n : ERn) : (s.freeEr n).stbyLow = s.stbyLow := rfl
@[simp] theorem State.freeEr_busReq (n : ERn) : (s.freeEr n).busReq = s.busReq := rfl
@[simp] theorem State.freeEr_ssby (n : ERn) : (s.freeEr n).ssby = s.ssby := rfl
@[simp] theorem State.freeEr_mode (n : ERn) : (s.freeEr n).mode = s.mode := rfl
@[simp] theorem State.freeEr_uiIsMask (n : ERn) : (s.freeEr n).uiIsMask = s.uiIsMask := rfl
@[simp] theorem State.freeEr_hasEClock (n : ERn) : (s.freeEr n).hasEClock = s.hasEClock := rfl
@[simp] theorem State.freeEr_memMap (n : ERn) : (s.freeEr n).memMap = s.memMap := rfl
@[simp] theorem State.freeEr_env (n : ERn) : (s.freeEr n).env = s.env := rfl
@[simp] theorem State.freeEr_draws (n : ERn) : (s.freeEr n).draws = s.draws + 1 := rfl

/-! ### advance -/

@[simp] theorem State.advance_regs (len : Addr) : (s.advance len).regs = s.regs := rfl
@[simp] theorem State.advance_pc (len : Addr) : (s.advance len).pc = s.nextPc len := rfl
@[simp] theorem State.advance_ccr (len : Addr) : (s.advance len).ccr = s.ccr := rfl
@[simp] theorem State.advance_proc (len : Addr) : (s.advance len).proc = s.proc := rfl
@[simp] theorem State.advance_inhibitInt (len : Addr) : (s.advance len).inhibitInt = s.inhibitInt := rfl
@[simp] theorem State.advance_mem (len : Addr) : (s.advance len).mem = s.mem := rfl
@[simp] theorem State.advance_stale (len : Addr) : (s.advance len).stale = s.stale := rfl
@[simp] theorem State.advance_pending (len : Addr) : (s.advance len).pending = s.pending := rfl
@[simp] theorem State.advance_lateNmi (len : Addr) : (s.advance len).lateNmi = s.lateNmi := rfl
@[simp] theorem State.advance_nmiDue (len : Addr) : (s.advance len).nmiDue = s.nmiDue := rfl
@[simp] theorem State.advance_busScript (len : Addr) : (s.advance len).busScript = s.busScript := rfl
@[simp] theorem State.advance_resLow (len : Addr) : (s.advance len).resLow = s.resLow := rfl
@[simp] theorem State.advance_stbyLow (len : Addr) : (s.advance len).stbyLow = s.stbyLow := rfl
@[simp] theorem State.advance_busReq (len : Addr) : (s.advance len).busReq = s.busReq := rfl
@[simp] theorem State.advance_ssby (len : Addr) : (s.advance len).ssby = s.ssby := rfl
@[simp] theorem State.advance_mode (len : Addr) : (s.advance len).mode = s.mode := rfl
@[simp] theorem State.advance_uiIsMask (len : Addr) : (s.advance len).uiIsMask = s.uiIsMask := rfl
@[simp] theorem State.advance_hasEClock (len : Addr) : (s.advance len).hasEClock = s.hasEClock := rfl
@[simp] theorem State.advance_memMap (len : Addr) : (s.advance len).memMap = s.memMap := rfl
@[simp] theorem State.advance_env (len : Addr) : (s.advance len).env = s.env := rfl
@[simp] theorem State.advance_draws (len : Addr) : (s.advance len).draws = s.draws := rfl

/-! ### setPc -/

@[simp] theorem State.setPc_regs (a : Addr) : (s.setPc a).regs = s.regs := rfl
@[simp] theorem State.setPc_pc (a : Addr) : (s.setPc a).pc = evenAddr (s.am a) := rfl
@[simp] theorem State.setPc_ccr (a : Addr) : (s.setPc a).ccr = s.ccr := rfl
@[simp] theorem State.setPc_proc (a : Addr) : (s.setPc a).proc = s.proc := rfl
@[simp] theorem State.setPc_inhibitInt (a : Addr) : (s.setPc a).inhibitInt = s.inhibitInt := rfl
@[simp] theorem State.setPc_mem (a : Addr) : (s.setPc a).mem = s.mem := rfl
@[simp] theorem State.setPc_stale (a : Addr) : (s.setPc a).stale = s.stale := rfl
@[simp] theorem State.setPc_pending (a : Addr) : (s.setPc a).pending = s.pending := rfl
@[simp] theorem State.setPc_lateNmi (a : Addr) : (s.setPc a).lateNmi = s.lateNmi := rfl
@[simp] theorem State.setPc_nmiDue (a : Addr) : (s.setPc a).nmiDue = s.nmiDue := rfl
@[simp] theorem State.setPc_busScript (a : Addr) : (s.setPc a).busScript = s.busScript := rfl
@[simp] theorem State.setPc_resLow (a : Addr) : (s.setPc a).resLow = s.resLow := rfl
@[simp] theorem State.setPc_stbyLow (a : Addr) : (s.setPc a).stbyLow = s.stbyLow := rfl
@[simp] theorem State.setPc_busReq (a : Addr) : (s.setPc a).busReq = s.busReq := rfl
@[simp] theorem State.setPc_ssby (a : Addr) : (s.setPc a).ssby = s.ssby := rfl
@[simp] theorem State.setPc_mode (a : Addr) : (s.setPc a).mode = s.mode := rfl
@[simp] theorem State.setPc_uiIsMask (a : Addr) : (s.setPc a).uiIsMask = s.uiIsMask := rfl
@[simp] theorem State.setPc_hasEClock (a : Addr) : (s.setPc a).hasEClock = s.hasEClock := rfl
@[simp] theorem State.setPc_memMap (a : Addr) : (s.setPc a).memMap = s.memMap := rfl
@[simp] theorem State.setPc_env (a : Addr) : (s.setPc a).env = s.env := rfl
@[simp] theorem State.setPc_draws (a : Addr) : (s.setPc a).draws = s.draws := rfl

end Sys2Proof.Machine
end

