-- ==== Sys2Proof/Laws/Registers.lean ====
section
/-! SUPPORT. Reading a general register, or a part of one, after writing one (R20, R21). -/

namespace Sys2Proof.Machine

/-! ### The register file -/

theorem RegFile.get_set_same (r : RegFile) (n : ERn) (x : Long) : (r.set n x).get n = x := by
  obtain ⟨k, hk⟩ := n
  unfold RegFile.get RegFile.set
  match k, hk with
  | 0, _ | 1, _ | 2, _ | 3, _ | 4, _ | 5, _ | 6, _ | 7, _ => rfl

theorem RegFile.get_set_ne (r : RegFile) {n m : ERn} (x : Long) (h : m ≠ n) : (r.set n x).get m = r.get m := by
  have key : ∀ n m : ERn, m ≠ n → (r.set n x).get m = r.get m := by
    intro ⟨a, ha⟩ ⟨b, hb⟩ hne
    unfold RegFile.get RegFile.set
    match a, ha, b, hb, hne with
    | 0, _, 0, _, h | 1, _, 1, _, h | 2, _, 2, _, h | 3, _, 3, _, h | 4, _, 4, _, h | 5, _, 5, _, h | 6, _, 6, _, h
    | 7, _, 7, _, h => exact absurd rfl h
    | 0, _, 1, _, _ | 0, _, 2, _, _ | 0, _, 3, _, _ | 0, _, 4, _, _ | 0, _, 5, _, _ | 0, _, 6, _, _ | 0, _, 7, _, _
    | 1, _, 0, _, _ | 1, _, 2, _, _ | 1, _, 3, _, _ | 1, _, 4, _, _ | 1, _, 5, _, _ | 1, _, 6, _, _ | 1, _, 7, _, _
    | 2, _, 0, _, _ | 2, _, 1, _, _ | 2, _, 3, _, _ | 2, _, 4, _, _ | 2, _, 5, _, _ | 2, _, 6, _, _ | 2, _, 7, _, _
    | 3, _, 0, _, _ | 3, _, 1, _, _ | 3, _, 2, _, _ | 3, _, 4, _, _ | 3, _, 5, _, _ | 3, _, 6, _, _ | 3, _, 7, _, _
    | 4, _, 0, _, _ | 4, _, 1, _, _ | 4, _, 2, _, _ | 4, _, 3, _, _ | 4, _, 5, _, _ | 4, _, 6, _, _ | 4, _, 7, _, _
    | 5, _, 0, _, _ | 5, _, 1, _, _ | 5, _, 2, _, _ | 5, _, 3, _, _ | 5, _, 4, _, _ | 5, _, 6, _, _ | 5, _, 7, _, _
    | 6, _, 0, _, _ | 6, _, 1, _, _ | 6, _, 2, _, _ | 6, _, 3, _, _ | 6, _, 4, _, _ | 6, _, 5, _, _ | 6, _, 7, _, _
    | 7, _, 0, _, _ | 7, _, 1, _, _ | 7, _, 2, _, _ | 7, _, 3, _, _ | 7, _, 4, _, _ | 7, _, 5, _, _ | 7, _, 6, _, _ => rfl
  exact key n m h

/-! ### ERn -/

theorem State.er_eq_of_regs {s t : State} (h : t.regs = s.regs) (n : ERn) : t.er n = s.er n := by
  simp only [State.er, h]

theorem State.er_setEr_same (s : State) (n : ERn) (x : Long) : (s.setEr n x).er n = x :=
  RegFile.get_set_same s.regs n x

theorem State.er_setEr_ne (s : State) {n m : ERn} (x : Long) (h : m ≠ n) : (s.setEr n x).er m = s.er m :=
  RegFile.get_set_ne s.regs x h

theorem State.er_setEr (s : State) (n m : ERn) (x : Long) : (s.setEr n x).er m = if m = n then x else s.er m := by
  split
  · next h => subst h; exact s.er_setEr_same m x
  · next h => exact s.er_setEr_ne x h

/-! ### Parts of a register -/

theorem State.reg8_eq_byteOf (s : State) (r : Reg8) : s.reg8 r = byteOf r (s.er r.whole) := by cases r <;> rfl

theorem State.reg16_eq_wordOf (s : State) (r : Reg16) : s.reg16 r = wordOf r (s.er r.whole) := by cases r <;> rfl

theorem State.reg8_eq_of_regs {s t : State} (h : t.regs = s.regs) (r : Reg8) : t.reg8 r = s.reg8 r := by
  rw [State.reg8_eq_byteOf, State.reg8_eq_byteOf, State.er_eq_of_regs h]

theorem State.reg16_eq_of_regs {s t : State} (h : t.regs = s.regs) (r : Reg16) : t.reg16 r = s.reg16 r := by
  rw [State.reg16_eq_wordOf, State.reg16_eq_wordOf, State.er_eq_of_regs h]

/-- Fields of concatenations. -/
theorem extract_low {a b : Nat} (x : BitVec a) (y : BitVec b) : (x ++ y).extractLsb' 0 b = y := by
  ext i hi
  simp only [BitVec.getElem_extractLsb', BitVec.getLsbD_append, Nat.zero_add]
  simp [hi]

theorem extract_high {a b : Nat} (x : BitVec a) (y : BitVec b) : (x ++ y).extractLsb' b a = x := by
  ext i hi
  simp only [BitVec.getElem_extractLsb', BitVec.getLsbD_append]
  simp [show ¬ b + i < b by omega, hi]

theorem extract_above {a b : Nat} (x : BitVec a) (y : BitVec b) (k n : Nat) :
    (x ++ y).extractLsb' (b + k) n = x.extractLsb' k n := by
  ext i hi
  simp only [BitVec.getElem_extractLsb', BitVec.getLsbD_append]
  rw [if_neg (by omega)]
  congr 1
  omega

theorem extract_below {a b : Nat} (x : BitVec a) (y : BitVec b) (k n : Nat) (h : k + n ≤ b) :
    (x ++ y).extractLsb' k n = y.extractLsb' k n := by
  ext i hi
  simp only [BitVec.getElem_extractLsb', BitVec.getLsbD_append]
  rw [if_pos (by omega)]

theorem extract_extract {w : Nat} (x : BitVec w) (i m k n : Nat) (h : k + n ≤ m) :
    (x.extractLsb' i m).extractLsb' k n = x.extractLsb' (i + k) n := by
  ext j hj
  simp only [BitVec.getElem_extractLsb', BitVec.getLsbD_extractLsb']
  rw [show decide (k + j < m) = true from by simp; omega]
  simp [Nat.add_assoc]

/-- A longword with its second byte replaced. -/
theorem splice_second (v : Long) (x : Byte) :
    (v.extractLsb' 16 16 ++ x ++ v.extractLsb' 0 8).extractLsb' 8 8 = x ∧
    (v.extractLsb' 16 16 ++ x ++ v.extractLsb' 0 8).extractLsb' 0 8 = v.extractLsb' 0 8 ∧
    (v.extractLsb' 16 16 ++ x ++ v.extractLsb' 0 8).extractLsb' 16 16 = v.extractLsb' 16 16 :=
  ⟨(extract_above (v.extractLsb' 16 16 ++ x) (v.extractLsb' 0 8) 0 8).trans (extract_low _ x),
    extract_low _ (v.extractLsb' 0 8),
    (extract_above (v.extractLsb' 16 16 ++ x) (v.extractLsb' 0 8) 8 16).trans (extract_high _ x)⟩

/-- A longword with its first byte replaced. -/
theorem splice_first (v : Long) (x : Byte) :
    (v.extractLsb' 8 24 ++ x).extractLsb' 0 8 = x ∧
    (v.extractLsb' 8 24 ++ x).extractLsb' 8 8 = v.extractLsb' 8 8 ∧
    (v.extractLsb' 8 24 ++ x).extractLsb' 16 16 = v.extractLsb' 16 16 :=
  ⟨extract_low _ x,
    (extract_above (v.extractLsb' 8 24) x 0 8).trans (extract_extract v 8 24 0 8 (by decide)),
    (extract_above (v.extractLsb' 8 24) x 8 16).trans (extract_extract v 8 24 8 16 (by decide))⟩

/-- The value of the whole register after a write of one of its bytes. -/
theorem State.setReg8_eq (s : State) (r : Reg8) (x : Byte) :
    ∃ y, s.setReg8 r x = s.setEr r.whole y ∧ byteOf r y = x ∧
      (∀ q : Reg8, q ≠ r → q.whole = r.whole → byteOf q y = byteOf q (s.er r.whole)) ∧
      wordOf (.e r.whole) y = wordOf (.e r.whole) (s.er r.whole) := by
  cases r with
  | h n =>
    have h := splice_second (s.er n) x
    refine ⟨_, rfl, h.1, ?_, h.2.2⟩
    intro q hq hw
    cases q with
    | h m => exact absurd (congrArg Reg8.h hw) hq
    | l m => exact h.2.1
  | l n =>
    have h := splice_first (s.er n) x
    refine ⟨_, rfl, h.1, ?_, h.2.2⟩
    intro q hq hw
    cases q with
    | h m => exact h.2.1
    | l m => exact absurd (congrArg Reg8.l hw) hq

/-- The value of the whole register after a write of one of its words. -/
theorem State.setReg16_eq (s : State) (r : Reg16) (x : Word) :
    ∃ y, s.setReg16 r x = s.setEr r.whole y ∧ wordOf r y = x ∧
      ∀ q : Reg16, q ≠ r → q.whole = r.whole → wordOf q y = wordOf q (s.er r.whole) := by
  cases r with
  | r n =>
    refine ⟨_, rfl, extract_low _ x, ?_⟩
    intro q hq hw
    cases q with
    | r m => exact absurd (congrArg Reg16.r hw) hq
    | e m => exact extract_high _ x
  | e n =>
    refine ⟨_, rfl, extract_high x _, ?_⟩
    intro q hq hw
    cases q with
    | r m => exact extract_low x _
    | e m => exact absurd (congrArg Reg16.e hw) hq

/-! ### What a register write does -/

/-- A write of an 8-bit register changes only it. -/
theorem State.setReg8_only (s : State) (r : Reg8) (x : Byte) : OnlyByte s (s.setReg8 r x) r x := by
  obtain ⟨y, hs, hx, hq, he⟩ := s.setReg8_eq r x
  rw [hs]
  refine ⟨?_, ?_, ?_⟩
  · rw [State.reg8_eq_byteOf, State.er_setEr_same, hx]
  · intro q hne
    rw [State.reg8_eq_byteOf, State.reg8_eq_byteOf, State.er_setEr]
    split
    · next h => rw [hq q hne h, h]
    · rfl
  · intro n
    show wordOf (.e n) ((s.setEr r.whole y).er n) = wordOf (.e n) (s.er n)
    rw [State.er_setEr]
    split
    · next h => subst h; exact he
    · rfl

/-- A write of a 16-bit register changes only it. -/
theorem State.setReg16_only (s : State) (r : Reg16) (x : Word) : OnlyWord s (s.setReg16 r x) r x := by
  obtain ⟨y, hs, hx, hq⟩ := s.setReg16_eq r x
  rw [hs]
  refine ⟨?_, ?_⟩
  · rw [State.reg16_eq_wordOf, State.er_setEr_same, hx]
  · intro q hne
    rw [State.reg16_eq_wordOf, State.reg16_eq_wordOf, State.er_setEr]
    split
    · next h => rw [hq q hne h, h]
    · rfl

/-- A write of a 32-bit register changes only it. -/
theorem State.setEr_only (s : State) (n : ERn) (x : Long) : OnlyLong s (s.setEr n x) n x :=
  ⟨s.er_setEr_same n x, fun _ h => s.er_setEr_ne x h⟩

/-! ### Register frames depend on the register file alone -/

theorem OnlyByte.of_regs {s t u : State} {r : Reg8} {x : Byte} (h : OnlyByte s t r x) (e : u.regs = t.regs) :
    OnlyByte s u r x :=
  ⟨(State.reg8_eq_of_regs e r).trans h.1, fun q hq => (State.reg8_eq_of_regs e q).trans (h.2.1 q hq),
    fun n => (State.reg16_eq_of_regs e _).trans (h.2.2 n)⟩

theorem OnlyWord.of_regs {s t u : State} {r : Reg16} {x : Word} (h : OnlyWord s t r x) (e : u.regs = t.regs) :
    OnlyWord s u r x :=
  ⟨(State.reg16_eq_of_regs e r).trans h.1, fun q hq => (State.reg16_eq_of_regs e q).trans (h.2 q hq)⟩

theorem OnlyLong.of_regs {s t u : State} {n : ERn} {x : Long} (h : OnlyLong s t n x) (e : u.regs = t.regs) :
    OnlyLong s u n x :=
  ⟨(State.er_eq_of_regs e n).trans h.1, fun m hm => (State.er_eq_of_regs e m).trans (h.2 m hm)⟩

theorem OnlyByte.from_regs {s s' t : State} {r : Reg8} {x : Byte} (h : OnlyByte s t r x) (e : s'.regs = s.regs) :
    OnlyByte s' t r x :=
  ⟨h.1, fun q hq => (h.2.1 q hq).trans (State.reg8_eq_of_regs e q).symm,
    fun n => (h.2.2 n).trans (State.reg16_eq_of_regs e _).symm⟩

theorem OnlyWord.from_regs {s s' t : State} {r : Reg16} {x : Word} (h : OnlyWord s t r x) (e : s'.regs = s.regs) :
    OnlyWord s' t r x :=
  ⟨h.1, fun q hq => (h.2 q hq).trans (State.reg16_eq_of_regs e q).symm⟩

theorem OnlyLong.from_regs {s s' t : State} {n : ERn} {x : Long} (h : OnlyLong s t n x) (e : s'.regs = s.regs) :
    OnlyLong s' t n x :=
  ⟨h.1, fun m hm => (h.2 m hm).trans (State.er_eq_of_regs e m).symm⟩

theorem SameRegisters.of_regs {s t : State} (e : t.regs = s.regs) : SameRegisters s t := fun n => State.er_eq_of_regs e n

end Sys2Proof.Machine
end

