-- ==== Sys2Proof/Laws/Memory.lean ====
section
/-! SUPPORT. Memory: reading after writing, the canonical form, and what each load and store can do (R60 to R66). -/

namespace Sys2Proof.Machine

/-! ### The list of cells -/

theorem Memory.lookup_insert (m : List Host.Cell) (a b : Nat) (v : Byte) :
    Memory.lookup (Memory.insert m a v) b = if b = a then some v else Memory.lookup m b := by
  induction m with
  | nil =>
    simp only [Memory.insert, Memory.lookup]
    simp only [eq_comm]
  | cons x m ih =>
    obtain ⟨k, w⟩ := x
    simp only [Memory.insert]
    split
    · simp only [Memory.lookup, eq_comm]
    · split
      · next _ h =>
        subst h
        simp only [Memory.lookup]
        by_cases hb : a = b
        · simp [hb]
        · simp [hb, Ne.symm hb]
      · next hlt hne =>
        simp only [Memory.lookup, ih]
        by_cases hk : k = b
        · have : b ≠ a := fun h => hne (h.symm.trans hk.symm)
          simp [hk, this]
        · simp [hk]

theorem Memory.mem_insert {m : List Host.Cell} {a : Nat} {v : Byte} {x : Host.Cell} (h : x ∈ Memory.insert m a v) :
    x = (a, v) ∨ x ∈ m := by
  induction m with
  | nil => simpa [Memory.insert] using h
  | cons y m ih =>
    obtain ⟨k, w⟩ := y
    simp only [Memory.insert] at h
    split at h
    · simpa using h
    · split at h
      · rcases List.mem_cons.1 h with h | h
        · exact .inl h
        · exact .inr (List.mem_cons_of_mem _ h)
      · rcases List.mem_cons.1 h with h | h
        · exact .inr (h ▸ List.mem_cons_self)
        · rcases ih h with h | h
          · exact .inl h
          · exact .inr (List.mem_cons_of_mem _ h)

/-- A write keeps the canonical form. -/
theorem Memory.wf_insert {m : List Host.Cell} (hwf : Memory.wf m) {a : Nat} (ha : a < 2 ^ 24) (v : Byte) :
    Memory.wf (Memory.insert m a v) := by
  refine ⟨?_, ?_⟩
  · have hp := hwf.1
    clear hwf
    induction m with
    | nil => simp [Memory.insert]
    | cons y m ih =>
      obtain ⟨k, w⟩ := y
      obtain ⟨hk, hm⟩ := List.pairwise_cons.1 hp
      simp only [Memory.insert]
      split
      · next hlt =>
        refine List.pairwise_cons.2 ⟨?_, hp⟩
        intro x hx
        rcases List.mem_cons.1 hx with h | h
        · rw [h]; exact hlt
        · exact Nat.lt_trans hlt (hk x h)
      · split
        · next heq => subst heq; exact List.pairwise_cons.2 ⟨hk, hm⟩
        · refine List.pairwise_cons.2 ⟨?_, ih hm⟩
          intro x hx
          rcases Memory.mem_insert hx with h | h
          · subst h; show k < a; omega
          · exact hk x h
  · intro x hx
    rcases Memory.mem_insert hx with h | h
    · rw [h]; exact ha
    · exact hwf.2 x h

theorem Memory.wf_nil : Memory.wf [] := ⟨List.Pairwise.nil, fun _ h => nomatch h⟩

/-- The memory of the reset state is in canonical form. -/
theorem State.reset_mem_wf : Memory.wf State.reset.mem := Memory.wf_nil

/-! ### What a bus cycle leaves alone -/

/-- Only memory, the schedule of other masters' writes and the count of free values may differ. -/
structure BusFrame (s t : State) : Prop where
  regs : t.regs = s.regs
  pc : t.pc = s.pc
  ccr : t.ccr = s.ccr
  proc : t.proc = s.proc
  inhibitInt : t.inhibitInt = s.inhibitInt
  nmiDue : t.nmiDue = s.nmiDue
  stale : t.stale = s.stale
  pending : t.pending = s.pending
  lateNmi : t.lateNmi = s.lateNmi
  resLow : t.resLow = s.resLow
  stbyLow : t.stbyLow = s.stbyLow
  busReq : t.busReq = s.busReq
  ssby : t.ssby = s.ssby
  mode : t.mode = s.mode
  uiIsMask : t.uiIsMask = s.uiIsMask
  hasEClock : t.hasEClock = s.hasEClock
  memMap : t.memMap = s.memMap
  env : t.env = s.env

theorem BusFrame.refl (s : State) : BusFrame s s := by constructor <;> rfl

theorem BusFrame.trans {s t u : State} (h : BusFrame s t) (k : BusFrame t u) : BusFrame s u :=
  ⟨k.regs.trans h.regs, k.pc.trans h.pc, k.ccr.trans h.ccr, k.proc.trans h.proc, k.inhibitInt.trans h.inhibitInt,
    k.nmiDue.trans h.nmiDue, k.stale.trans h.stale, k.pending.trans h.pending, k.lateNmi.trans h.lateNmi, k.resLow.trans h.resLow,
    k.stbyLow.trans h.stbyLow, k.busReq.trans h.busReq, k.ssby.trans h.ssby, k.mode.trans h.mode,
    k.uiIsMask.trans h.uiIsMask, k.hasEClock.trans h.hasEClock, k.memMap.trans h.memMap, k.env.trans h.env⟩

theorem BusFrame.control {s t : State} (h : BusFrame s t) : SameControl s t := 
  ⟨h.proc, h.inhibitInt, h.nmiDue, h.stale⟩

theorem BusFrame.outside {s t : State} (h : BusFrame s t) : SameOutside s t :=
  ⟨h.pending, h.lateNmi, h.resLow, h.stbyLow, h.busReq, h.ssby, h.mode, h.uiIsMask, h.hasEClock, h.memMap, h.env⟩

theorem State.drawByte_frame (s : State) : BusFrame s s.drawByte.2 := by constructor <;> rfl

theorem State.readPhys_frame (s : State) (a : Addr) : BusFrame s (s.readPhys a).2 := by
  unfold State.readPhys
  split
  · exact .refl s
  · exact .refl s
  · exact s.drawByte_frame
  · exact s.drawByte_frame

theorem State.writePhys_frame (s : State) (a : Addr) (v : Byte) : BusFrame s (s.writePhys a v) := by
  unfold State.writePhys
  split
  · constructor <;> rfl
  all_goals exact .refl s

theorem State.masterWrites_frame (s : State) (ws : List Host.Cell) : BusFrame s (s.masterWrites ws) := by
  induction ws generalizing s with
  | nil => exact .refl s
  | cons w ws ih => exact (s.writePhys_frame _ _).trans (ih _)

theorem State.busTurn_frame (s : State) : BusFrame s s.busTurn := by
  unfold State.busTurn
  split
  · exact .refl s
  · exact .trans (by constructor <;> rfl) (State.masterWrites_frame _ _)

theorem State.loadByte_frame (s : State) (a : Addr) : BusFrame s (s.loadByte a).2 :=
  s.busTurn_frame.trans (State.readPhys_frame _ _)

theorem State.loadWord_frame (s : State) (a : Addr) : BusFrame s (s.loadWord a).2 :=
  show BusFrame s ((s.busTurn.readPhys (evenAddr (s.am a))).2.readPhys (s.am (evenAddr (s.am a) + 1))).2 from
    (s.busTurn_frame.trans (State.readPhys_frame _ _)).trans (State.readPhys_frame _ _)

/-- A longword read is two word reads, the lower address first. -/
theorem State.loadLong_eq (s : State) (a : Addr) :
    s.loadLong a = ((s.loadWord (s.wordBase a)).1 ++ ((s.loadWord (s.wordBase a)).2.loadWord (s.wordBase a + 2)).1,
      ((s.loadWord (s.wordBase a)).2.loadWord (s.wordBase a + 2)).2) := by
  unfold State.loadLong State.wordBase
  rfl

theorem State.loadLong_frame (s : State) (a : Addr) : BusFrame s (s.loadLong a).2 := by
  rw [State.loadLong_eq]
  dsimp only
  exact (s.loadWord_frame _).trans (State.loadWord_frame _ _)

theorem State.storeByte_frame (s : State) (a : Addr) (v : Byte) : BusFrame s (s.storeByte a v) :=
  s.busTurn_frame.trans (State.writePhys_frame _ _ _)

theorem State.storeWord_frame (s : State) (a : Addr) (v : Word) : BusFrame s (s.storeWord a v) :=
  (s.busTurn_frame.trans (State.writePhys_frame _ _ _)).trans (State.writePhys_frame _ _ _)

theorem State.storeLong_frame (s : State) (a : Addr) (v : Long) : BusFrame s (s.storeLong a v) :=
  (s.storeWord_frame _ _).trans (State.storeWord_frame _ _ _)

theorem BusFrame.am {s t : State} (h : BusFrame s t) (a : Addr) : t.am a = s.am a := by
  simp only [State.am, h.mode]

theorem BusFrame.accessKind {s t : State} (h : BusFrame s t) (a : Addr) : t.accessKind a = s.accessKind a := by
  simp only [State.accessKind, h.memMap]

/-! ### The canonical form is kept -/

theorem State.readPhys_mem (s : State) (a : Addr) : (s.readPhys a).2.mem = s.mem := by
  unfold State.readPhys
  split <;> rfl

theorem State.writePhys_wf {s : State} (h : Memory.wf s.mem) (a : Addr) (v : Byte) :
    Memory.wf (s.writePhys a v).mem := by
  unfold State.writePhys
  split
  · exact Memory.wf_insert h a.isLt v
  all_goals exact h

theorem State.masterWrites_wf {s : State} (h : Memory.wf s.mem) (ws : List Host.Cell) :
    Memory.wf (s.masterWrites ws).mem := by
  induction ws generalizing s with
  | nil => exact h
  | cons w ws ih => exact ih (State.writePhys_wf h _ _)

theorem State.busTurn_wf {s : State} (h : Memory.wf s.mem) : Memory.wf s.busTurn.mem := by
  unfold State.busTurn
  split
  · exact h
  · exact State.masterWrites_wf (by exact h) _

theorem State.readPhys_wf {s : State} (h : Memory.wf s.mem) (a : Addr) : Memory.wf (s.readPhys a).2.mem := by
  rw [State.readPhys_mem]; exact h

theorem State.loadByte_wf {s : State} (h : Memory.wf s.mem) (a : Addr) : Memory.wf (s.loadByte a).2.mem :=
  State.readPhys_wf (State.busTurn_wf h) _

theorem State.loadWord_wf {s : State} (h : Memory.wf s.mem) (a : Addr) : Memory.wf (s.loadWord a).2.mem :=
  show Memory.wf ((s.busTurn.readPhys (evenAddr (s.am a))).2.readPhys (s.am (evenAddr (s.am a) + 1))).2.mem from
    State.readPhys_wf (State.readPhys_wf (State.busTurn_wf h) _) _

theorem State.loadLong_wf {s : State} (h : Memory.wf s.mem) (a : Addr) : Memory.wf (s.loadLong a).2.mem := by
  rw [State.loadLong_eq]
  dsimp only
  exact State.loadWord_wf (State.loadWord_wf h _) _

theorem State.storeByte_wf {s : State} (h : Memory.wf s.mem) (a : Addr) (v : Byte) :
    Memory.wf (s.storeByte a v).mem := State.writePhys_wf (State.busTurn_wf h) _ _

theorem State.storeWord_wf {s : State} (h : Memory.wf s.mem) (a : Addr) (v : Word) :
    Memory.wf (s.storeWord a v).mem := State.writePhys_wf (State.writePhys_wf (State.busTurn_wf h) _ _) _ _

theorem State.storeLong_wf {s : State} (h : Memory.wf s.mem) (a : Addr) (v : Long) :
    Memory.wf (s.storeLong a v).mem := State.storeWord_wf (State.storeWord_wf h _ _) _ _

/-! ### Addresses -/

theorem evenAddr_getLsbD_zero (a : Addr) : (evenAddr a).getLsbD 0 = false := by
  simp [evenAddr]

theorem evenAddr_toNat (a : Addr) : (evenAddr a).toNat = a.toNat / 2 * 2 := by
  have key : ∀ i : Fin 24, (0xFFFFFE#24).getLsbD i = decide (0 < i.val) := by decide
  have h : evenAddr a = (a >>> 1) <<< 1 := by
    apply BitVec.eq_of_getLsbD_eq
    intro i hi
    simp only [evenAddr, BitVec.getLsbD_and, BitVec.getLsbD_shiftLeft, BitVec.getLsbD_ushiftRight, key ⟨i, hi⟩]
    by_cases h0 : i = 0
    · simp [h0]
    · simp [hi, show 0 < i by omega, show ¬ i < 1 by omega, show 1 + (i - 1) = i by omega]
  rw [h, BitVec.toNat_shiftLeft, BitVec.toNat_ushiftRight, Nat.shiftLeft_eq, Nat.shiftRight_eq_div_pow, Nat.pow_one,
    Nat.mod_eq_of_lt]
  have := a.isLt
  omega

theorem State.am_toNat (s : State) (a : Addr) :
    (s.am a).toNat = match s.mode with | .normal => a.toNat % 2 ^ 16 | .advanced => a.toNat := by
  cases hm : s.mode
  · simp only [State.am, hm, BitVec.toNat_setWidth]
    omega
  · simp only [State.am, hm]

theorem State.am_am (s : State) (a : Addr) : s.am (s.am a) = s.am a := by
  apply BitVec.eq_of_toNat_eq
  rw [State.am_toNat, State.am_toNat]
  cases s.mode <;> simp

/-- Masking the parts of a sum first makes no difference. -/
theorem State.am_add_am (s : State) (a b : Addr) : s.am (s.am a + b) = s.am (a + b) := by
  apply BitVec.eq_of_toNat_eq
  rw [State.am_toNat, State.am_toNat, BitVec.toNat_add, BitVec.toNat_add, State.am_toNat]
  cases s.mode
  · show (a.toNat % 2 ^ 16 + b.toNat) % 2 ^ 24 % 2 ^ 16 = (a.toNat + b.toNat) % 2 ^ 24 % 2 ^ 16
    omega
  · rfl

theorem State.am_evenAddr (s : State) (a : Addr) : s.am (evenAddr a) = evenAddr (s.am a) := by
  apply BitVec.eq_of_toNat_eq
  rw [State.am_toNat, evenAddr_toNat, evenAddr_toNat, State.am_toNat]
  cases s.mode
  · show a.toNat / 2 * 2 % 2 ^ 16 = a.toNat % 2 ^ 16 / 2 * 2
    omega
  · rfl

theorem evenAddr_evenAddr (a : Addr) : evenAddr (evenAddr a) = evenAddr a := by
  apply BitVec.eq_of_toNat_eq
  rw [evenAddr_toNat, evenAddr_toNat]
  omega

/-- The byte after an even address is the address with bit 0 set, within the address space. -/
theorem State.am_wordBase_add_one (s : State) (a : Addr) : s.am (s.wordBase a + 1) = s.wordBase a ||| 1#24 := by
  have hodd : s.wordBase a ||| 1#24 = s.wordBase a + 1 := by
    have hz : s.wordBase a &&& 1#24 = 0#24 := by
      apply BitVec.eq_of_getLsbD_eq
      intro i hi
      rw [BitVec.getLsbD_and]
      by_cases h : i = 0
      · subst h
        rw [show (s.wordBase a).getLsbD 0 = false from evenAddr_getLsbD_zero _]
        rfl
      · simp [BitVec.getLsbD_one, h]
    exact (BitVec.add_eq_or_of_and_eq_zero _ _ hz).symm
  rw [hodd]
  apply BitVec.eq_of_toNat_eq
  rw [State.am_toNat, BitVec.toNat_add]
  have hb : (s.wordBase a).toNat = (s.am a).toNat / 2 * 2 := evenAddr_toNat _
  rw [State.am_toNat] at hb
  have := a.isLt
  cases hm : s.mode
  · simp only [hm] at hb ⊢
    show ((s.wordBase a).toNat + 1) % 2 ^ 24 % 2 ^ 16 = ((s.wordBase a).toNat + 1) % 2 ^ 24
    omega
  · rfl

theorem State.am_wordBase (s : State) (a : Addr) : s.am (s.wordBase a) = s.wordBase a := by
  unfold State.wordBase
  rw [State.am_evenAddr, State.am_am]

theorem State.wordBase_wordBase (s : State) (a : Addr) : s.wordBase (s.wordBase a) = s.wordBase a := by
  show evenAddr (s.am (s.wordBase a)) = _
  rw [State.am_wordBase]
  exact evenAddr_evenAddr _

theorem State.wordBase_add_two (s : State) (a : Addr) : s.wordBase (s.wordBase a + 2) = s.wordBase (a + 2) := by
  apply BitVec.eq_of_toNat_eq
  unfold State.wordBase
  rw [evenAddr_toNat, evenAddr_toNat, State.am_toNat, State.am_toNat, BitVec.toNat_add, BitVec.toNat_add,
    evenAddr_toNat, State.am_toNat]
  have := a.isLt
  have h2 : (2 : Addr).toNat = 2 := rfl
  rw [h2]
  cases s.mode <;> simp only <;> omega

end Sys2Proof.Machine
end

