-- ==== Sys2Proof/Laws/Access.lean ====
section
/-! SUPPORT. What a read gives and what a store leaves when no other bus master interferes (R60 to R66, R79). -/

namespace Sys2Proof.Machine

/-! ### Quiet -/

theorem Quiet.busTurn {s : State} (h : Quiet s) : s.busTurn = s := by
  unfold State.busTurn
  rw [show s.busScript = [] from h]

theorem Quiet.readPhys {s : State} (h : Quiet s) (a : Addr) : Quiet (s.readPhys a).2 := by
  unfold State.readPhys
  split <;> exact h

theorem Quiet.writePhys {s : State} (h : Quiet s) (a : Addr) (v : Byte) : Quiet (s.writePhys a v) := by
  unfold State.writePhys
  split <;> exact h

theorem Quiet.loadByte {s : State} (h : Quiet s) (a : Addr) : Quiet (s.loadByte a).2 := by
  unfold State.loadByte
  rw [h.busTurn]
  exact h.readPhys _

theorem Quiet.loadWord {s : State} (h : Quiet s) (a : Addr) : Quiet (s.loadWord a).2 := by
  unfold State.loadWord
  rw [h.busTurn]
  exact (h.readPhys _).readPhys _

theorem Quiet.loadLong {s : State} (h : Quiet s) (a : Addr) : Quiet (s.loadLong a).2 := by
  rw [State.loadLong_eq]
  dsimp only
  exact (h.loadWord _).loadWord _

theorem Quiet.storeByte {s : State} (h : Quiet s) (a : Addr) (v : Byte) : Quiet (s.storeByte a v) := by
  unfold State.storeByte
  rw [h.busTurn]
  exact h.writePhys _ _

theorem Quiet.storeWord {s : State} (h : Quiet s) (a : Addr) (v : Word) : Quiet (s.storeWord a v) := by
  unfold State.storeWord
  rw [h.busTurn]
  exact (h.writePhys _ _).writePhys _ _

/-! ### The content of a byte depends on memory alone -/

theorem State.peek_eq_of_mem {s t : State} (h : t.mem = s.mem) (a : Addr) : t.peek a = s.peek a := by
  simp only [State.peek, h]

theorem SameMemory.of_mem {s t : State} (h : t.mem = s.mem) : SameMemory s t := fun a => State.peek_eq_of_mem h a

theorem Quiet.loadByte_mem {s : State} (h : Quiet s) (a : Addr) : (s.loadByte a).2.mem = s.mem := by
  unfold State.loadByte
  rw [h.busTurn]
  exact s.readPhys_mem _

theorem Quiet.loadWord_mem {s : State} (h : Quiet s) (a : Addr) : (s.loadWord a).2.mem = s.mem := by
  unfold State.loadWord
  rw [h.busTurn]
  exact (State.readPhys_mem _ _).trans (State.readPhys_mem _ _)

theorem Quiet.loadLong_mem {s : State} (h : Quiet s) (a : Addr) : (s.loadLong a).2.mem = s.mem := by
  rw [State.loadLong_eq]
  dsimp only
  exact ((h.loadWord _).loadWord_mem _).trans (h.loadWord_mem _)

/-! ### Reads -/

theorem State.readPhys_value {s : State} {a : Addr} (h : Readable s a) : (s.readPhys a).1 = s.peek a := by
  unfold State.readPhys
  rcases h with h | h <;> rw [h]

theorem State.readPhys_state {s : State} {a : Addr} (h : Readable s a) : (s.readPhys a).2 = s := by
  unfold State.readPhys
  rcases h with h | h <;> rw [h]

/-- A byte load reads the byte there. -/
theorem State.loadByte_read (s : State) (ea : Addr) : ByteRead s ea (s.loadByte ea).1 := by
  intro hq hr
  unfold State.loadByte
  rw [hq.busTurn]
  exact State.readPhys_value hr

theorem Quiet.loadWord_value {s : State} (hq : Quiet s) {ea : Addr} (hr : ReadableWord s ea) :
    s.loadWord ea = (s.wordAt ea, s) := by
  have h1 : s.readPhys (s.wordBase ea) = (s.peek (s.wordBase ea), s) :=
    Prod.ext (State.readPhys_value hr.1) (State.readPhys_state hr.1)
  have h2 : s.readPhys (s.wordBase ea ||| 1#24) = (s.peek (s.wordBase ea ||| 1#24), s) :=
    Prod.ext (State.readPhys_value hr.2) (State.readPhys_state hr.2)
  unfold State.loadWord
  rw [hq.busTurn]
  show ((s.readPhys (s.wordBase ea)).1 ++ ((s.readPhys (s.wordBase ea)).2.readPhys (s.am (s.wordBase ea + 1))).1,
    ((s.readPhys (s.wordBase ea)).2.readPhys (s.am (s.wordBase ea + 1))).2) = _
  rw [s.am_wordBase_add_one, h1]
  dsimp only
  rw [h2]
  rfl

/-- A word load reads the two bytes there, big-endian. -/
theorem State.loadWord_read (s : State) (ea : Addr) : WordRead s ea (s.loadWord ea).1 := by
  intro hq hr
  rw [hq.loadWord_value hr]

theorem ReadableWord.base {s : State} {ea : Addr} (h : ReadableWord s ea) : ReadableWord s (s.wordBase ea) := by
  unfold ReadableWord
  rw [State.wordBase_wordBase]
  exact h

theorem State.wordAt_wordBase (s : State) (ea : Addr) : s.wordAt (s.wordBase ea) = s.wordAt ea := by
  unfold State.wordAt
  rw [State.wordBase_wordBase]

theorem State.wordAt_base_add_two (s : State) (ea : Addr) : s.wordAt (s.wordBase ea + 2) = s.wordAt (ea + 2) := by
  unfold State.wordAt
  rw [State.wordBase_add_two]

theorem ReadableWord.base_add_two {s : State} {ea : Addr} (h : ReadableWord s (ea + 2)) :
    ReadableWord s (s.wordBase ea + 2) := by
  unfold ReadableWord
  rw [State.wordBase_add_two]
  exact h

theorem Quiet.loadLong_value {s : State} (hq : Quiet s) {ea : Addr} (h1 : ReadableWord s ea)
    (h2 : ReadableWord s (ea + 2)) : s.loadLong ea = (s.longAt ea, s) := by
  rw [State.loadLong_eq, hq.loadWord_value h1.base]
  dsimp only
  rw [hq.loadWord_value h2.base_add_two, State.wordAt_wordBase, State.wordAt_base_add_two]
  rfl

/-- A longword load reads the four bytes there, big-endian. -/
theorem State.loadLong_read (s : State) (ea : Addr) : LongRead s ea (s.loadLong ea).1 := by
  intro hq h1 h2
  rw [hq.loadLong_value h1 h2]

/-! ### Stores -/

theorem State.peek_writePhys (s : State) (a b : Addr) (v : Byte) :
    (s.writePhys a v).peek b = if b = a ∧ s.accessKind b = .memory then v else s.peek b := by
  unfold State.writePhys
  split
  · next h =>
    simp only [State.peek, Memory.lookup_insert]
    by_cases hb : b = a
    · subst hb; simp [h]
    · have : b.toNat ≠ a.toNat := fun e => hb (BitVec.eq_of_toNat_eq e)
      simp [hb, this]
  all_goals
    next h =>
    rw [if_neg]
    rintro ⟨rfl, hm⟩
    rw [hm] at h
    cases h

theorem lookup_cons_if (a b : Addr) (v : Byte) (l : List (Addr × Byte)) :
    List.lookup b ((a, v) :: l) = if b = a then some v else List.lookup b l := by
  by_cases h : b = a
  · simp [h]
  · have e : (b == a) = false := by simpa using h
    simp [List.lookup, e, h]

/-- A byte store changes the byte there and no other. -/
theorem Quiet.storeByte_stored {s : State} (hq : Quiet s) (ea : Addr) (v : Byte) :
    Stored s (s.storeByte ea v) (byteCells s ea v) [] := by
  intro a _
  unfold State.storeByte byteCells
  rw [hq.busTurn, State.peek_writePhys, lookup_cons_if]
  by_cases ha : a = s.am ea
  · simp [ha]
  · simp [ha]

theorem wordBase_ne_or (s : State) (ea : Addr) : s.wordBase ea ||| 1#24 ≠ s.wordBase ea := by
  intro h
  have h0 := congrArg (fun x : Addr => x.getLsbD 0) h
  simp only [BitVec.getLsbD_or] at h0
  rw [show (s.wordBase ea).getLsbD 0 = false from evenAddr_getLsbD_zero _] at h0
  simp at h0

/-- The content of each byte after a word store. -/
theorem Quiet.peek_storeWord {s : State} (hq : Quiet s) (ea : Addr) (v : Word) (a : Addr) :
    (s.storeWord ea v).peek a =
      if s.accessKind a = .memory then
        if a = s.wordBase ea then v.extractLsb' 8 8
        else if a = s.wordBase ea ||| 1#24 then v.extractLsb' 0 8 else s.peek a
      else s.peek a := by
  unfold State.storeWord
  rw [hq.busTurn]
  show ((s.writePhys (s.wordBase ea) (v.extractLsb' 8 8)).writePhys (s.am (s.wordBase ea + 1))
    (v.extractLsb' 0 8)).peek a = _
  rw [s.am_wordBase_add_one, State.peek_writePhys, State.peek_writePhys, (s.writePhys_frame _ _).accessKind]
  have hne := wordBase_ne_or s ea
  by_cases hm : s.accessKind a = .memory
  · by_cases h1 : a = s.wordBase ea
    · have h2 : a ≠ s.wordBase ea ||| 1#24 := fun e => hne (e.symm.trans h1)
      simp [h1, hne.symm]
    · simp [hm, h1]
  · simp [hm]

/-- A word store changes the two bytes there and no other. -/
theorem Quiet.storeWord_stored {s : State} (hq : Quiet s) (ea : Addr) (v : Word) :
    Stored s (s.storeWord ea v) (wordCells s ea v) [] := by
  intro a _
  rw [hq.peek_storeWord]
  unfold wordCells
  rw [lookup_cons_if, lookup_cons_if]
  split
  · split
    · rfl
    · split <;> rfl
  · rfl

end Sys2Proof.Machine
end

