-- ==== Sys2Proof/Laws/Flags.lean ====
section
/-! SUPPORT. What each computation of CCR does to each flag, and the arithmetic carries against the manual's Boolean
equations (R38, R40, R230). -/

namespace Sys2Proof.Machine

/-! ### One flag -/

theorem ccrGet_ccrSet (c : Byte) (f g : Flag) (b : Bool) :
    ccrGet (ccrSet c f b) g = if g = f then b else ccrGet c g := by
  cases b <;> cases f <;> cases g <;> simp [ccrGet, ccrSet, Flag.pos]

theorem State.flag_eq (s : State) (f : Flag) : s.flag f = ccrGet s.ccr f := rfl

theorem ccr_ext {c d : Byte} (h : ∀ f, ccrGet c f = ccrGet d f) : c = d := by
  apply BitVec.eq_of_getLsbD_eq
  intro k hk
  match k, hk with
  | 0, _ => exact h .c
  | 1, _ => exact h .v
  | 2, _ => exact h .z
  | 3, _ => exact h .n
  | 4, _ => exact h .u
  | 5, _ => exact h .h
  | 6, _ => exact h .ui
  | 7, _ => exact h .i

/-! ### Whole computations of CCR -/

theorem FlagsBecome.of_ccr {s t : State} {l : List (Flag × Bool)}
    (h : ∀ f, ccrGet t.ccr f = (l.lookup f).getD (ccrGet s.ccr f)) : FlagsBecome s t l := h

theorem FlagsBecome.same {s t : State} (h : t.ccr = s.ccr) : FlagsBecome s t [] := by
  intro f
  simp [State.flag_eq, h]

theorem decide_eq_zero {w : Nat} (v : BitVec w) : decide (v = 0#w) = decide (v.toNat = 0) := by
  rw [decide_eq_decide]
  exact ⟨fun h => by simp [h], fun h => BitVec.eq_of_toNat_eq (by simpa using h)⟩

theorem FlagsBecome.nzv {s t : State} {n z v : Bool} (h : t.ccr = ccrNZV s.ccr n z v) :
    FlagsBecome s t [(.n, n), (.z, z), (.v, v)] := by
  intro f
  simp only [State.flag_eq, h, ccrNZV, ccrGet_ccrSet]
  cases f <;> rfl

theorem FlagsBecome.nz {s t : State} {n z : Bool} (h : t.ccr = ccrNZ s.ccr n z) :
    FlagsBecome s t [(.n, n), (.z, z)] := by
  intro f
  simp only [State.flag_eq, h, ccrNZ, ccrGet_ccrSet]
  cases f <;> rfl

theorem FlagsBecome.one {s t : State} {g : Flag} {b : Bool} (h : t.ccr = ccrSet s.ccr g b) :
    FlagsBecome s t [(g, b)] := by
  intro f
  simp only [State.flag_eq, h, ccrGet_ccrSet]
  cases f <;> cases g <;> rfl

/-- The flags of transferred data (R170). -/
theorem FlagsBecome.move {w : Nat} {s t : State} {v : BitVec w} (h : t.ccr = ccrMove s.ccr v) :
    FlagsBecome s t (testFlags v) := by
  unfold testFlags
  rw [← BitVec.msb_eq_toInt, ← decide_eq_zero]
  exact FlagsBecome.nzv h

/-- The flags of a logic result (R300). -/
theorem FlagsBecome.logic {w : Nat} {s t : State} {v : BitVec w} (h : t.ccr = ccrLogic s.ccr v) :
    FlagsBecome s t (testFlags v) := FlagsBecome.move h

/-- The flags of EXTU (R263, R264). -/
theorem FlagsBecome.extu {w : Nat} {s t : State} {v : BitVec w} (h : t.ccr = ccrExtu s.ccr v) :
    FlagsBecome s t [(.n, false), (.z, decide (v.toNat = 0)), (.v, false)] := by
  rw [← decide_eq_zero]
  exact FlagsBecome.nzv h

/-- The flags of a shift or rotate (R322). -/
theorem FlagsBecome.shift {w : Nat} {s t : State} {x : ShiftResult w} (h : t.ccr = ccrShift s.ccr x) :
    FlagsBecome s t (shiftFlags x.value x.c x.v) := by
  unfold shiftFlags
  rw [← BitVec.msb_eq_toInt, ← decide_eq_zero]
  intro f
  simp only [State.flag_eq, h, ccrShift, ccrNZV, ccrGet_ccrSet]
  cases f <;> rfl

/-- The flags of INC (R38). -/
theorem FlagsBecome.inc {w : Nat} {s t : State} {d r : BitVec (w + 1)} (h : t.ccr = ccrInc s.ccr d r) :
    FlagsBecome s t (incFlags w d r) := by
  unfold incFlags
  rw [← decide_eq_zero]
  exact FlagsBecome.nzv (by simpa [ccrInc, BitVec.msb_eq_getLsbD_last] using h)

/-- The flags of DEC (R38). -/
theorem FlagsBecome.dec {w : Nat} {s t : State} {d r : BitVec (w + 1)} (h : t.ccr = ccrDec s.ccr d r) :
    FlagsBecome s t (decFlags w d r) := by
  unfold decFlags
  rw [← decide_eq_zero]
  exact FlagsBecome.nzv (by simpa [ccrDec, BitVec.msb_eq_getLsbD_last] using h)

/-- The five flags of an addition or subtraction. -/
theorem FlagsBecome.alu {w : Nat} {s t : State} {x : AluResult w} (h : t.ccr = ccrAlu s.ccr x) :
    FlagsBecome s t [(.h, x.h), (.n, x.n), (.z, x.z), (.v, x.v), (.c, x.c)] := by
  intro f
  simp only [State.flag_eq, h, ccrAlu, ccrGet_ccrSet]
  cases f <;> rfl

/-- The five flags of ADDX and SUBX: Z only falls. -/
theorem FlagsBecome.aluX {w : Nat} {s t : State} {x : AluResult w} (h : t.ccr = ccrAluX s.ccr x) :
    FlagsBecome s t [(.h, x.h), (.n, x.n), (.z, s.flag .z && x.z), (.v, x.v), (.c, x.c)] := by
  intro f
  simp only [State.flag_eq, h, ccrAluX, ccrGet_ccrSet]
  cases f <;> rfl

/-! ### Carries and borrows as Boolean equations -/

theorem testBit_eq_decide_le (x k : Nat) : x.testBit k = decide (2 ^ k ≤ x % 2 ^ (k + 1)) := by
  rw [Nat.testBit_eq_decide_div_mod_eq, decide_eq_decide, Nat.mod_pow_succ]
  have hlt : x % 2 ^ k < 2 ^ k := Nat.mod_lt _ (Nat.two_pow_pos k)
  rcases Nat.mod_two_eq_zero_or_one (x / 2 ^ k) with h | h
  · simp [h]; exact hlt
  · simp [h]

/-- The carry out of bit `k` of a sum. -/
theorem carry_eq (a b c k : Nat) (hc : c ≤ 1) :
    decide (2 ^ (k + 1) ≤ a % 2 ^ (k + 1) + b % 2 ^ (k + 1) + c) =
      ((b.testBit k && a.testBit k) || (a.testBit k && !(a + b + c).testBit k) ||
        (b.testBit k && !(a + b + c).testBit k)) := by
  have hr : (a + b + c) % 2 ^ (k + 1) = (a % 2 ^ (k + 1) + b % 2 ^ (k + 1) + c) % 2 ^ (k + 1) := by
    simp [Nat.add_mod]
  rw [testBit_eq_decide_le, testBit_eq_decide_le, testBit_eq_decide_le, hr]
  have ha : a % 2 ^ (k + 1) < 2 ^ (k + 1) := Nat.mod_lt _ (Nat.two_pow_pos _)
  have hb : b % 2 ^ (k + 1) < 2 ^ (k + 1) := Nat.mod_lt _ (Nat.two_pow_pos _)
  generalize a % 2 ^ (k + 1) = a' at *
  generalize b % 2 ^ (k + 1) = b' at *
  have hp : 2 ^ (k + 1) = 2 * 2 ^ k := by rw [Nat.pow_succ, Nat.mul_comm]
  have hpos : 0 < 2 ^ k := Nat.two_pow_pos k
  rw [hp] at ha hb ⊢
  generalize 2 ^ k = q at *
  have hm : (a' + b' + c < 2 * q ∧ (a' + b' + c) % (2 * q) = a' + b' + c) ∨
      (2 * q ≤ a' + b' + c ∧ (a' + b' + c) % (2 * q) = a' + b' + c - 2 * q) := by
    by_cases h : a' + b' + c < 2 * q
    · exact .inl ⟨h, Nat.mod_eq_of_lt h⟩
    · refine .inr ⟨by omega, ?_⟩
      rw [Nat.mod_eq_sub_mod (by omega), Nat.mod_eq_of_lt (by omega)]
  rcases hm with ⟨h1, h2⟩ | ⟨h1, h2⟩ <;> rw [h2, Bool.eq_iff_iff] <;>
    simp only [Bool.or_eq_true, Bool.and_eq_true, Bool.not_eq_true', decide_eq_true_eq, decide_eq_false_iff_not] <;> omega

/-- The borrow at bit `k` of a difference `r`, where `a = r + b + c` modulo a power of two above `k`. -/
theorem borrow_eq (a b r c k : Nat) (hc : c ≤ 1) (h : a % 2 ^ (k + 1) = (r + b + c) % 2 ^ (k + 1)) :
    decide (a % 2 ^ (k + 1) < b % 2 ^ (k + 1) + c) =
      ((b.testBit k && !a.testBit k) || (!a.testBit k && r.testBit k) || (b.testBit k && r.testBit k)) := by
  have hr : (r + b + c) % 2 ^ (k + 1) = (r % 2 ^ (k + 1) + b % 2 ^ (k + 1) + c) % 2 ^ (k + 1) := by
    simp [Nat.add_mod]
  rw [hr] at h
  rw [testBit_eq_decide_le, testBit_eq_decide_le, testBit_eq_decide_le]
  have ha : a % 2 ^ (k + 1) < 2 ^ (k + 1) := Nat.mod_lt _ (Nat.two_pow_pos _)
  have hb : b % 2 ^ (k + 1) < 2 ^ (k + 1) := Nat.mod_lt _ (Nat.two_pow_pos _)
  have hr : r % 2 ^ (k + 1) < 2 ^ (k + 1) := Nat.mod_lt _ (Nat.two_pow_pos _)
  generalize a % 2 ^ (k + 1) = a' at *
  generalize b % 2 ^ (k + 1) = b' at *
  generalize r % 2 ^ (k + 1) = r' at *
  have hp : 2 ^ (k + 1) = 2 * 2 ^ k := by rw [Nat.pow_succ, Nat.mul_comm]
  have hpos : 0 < 2 ^ k := Nat.two_pow_pos k
  rw [hp] at ha hb hr h
  generalize 2 ^ k = q at *
  have hm : (r' + b' + c < 2 * q ∧ (r' + b' + c) % (2 * q) = r' + b' + c) ∨
      (2 * q ≤ r' + b' + c ∧ (r' + b' + c) % (2 * q) = r' + b' + c - 2 * q) := by
    by_cases h : r' + b' + c < 2 * q
    · exact .inl ⟨h, Nat.mod_eq_of_lt h⟩
    · refine .inr ⟨by omega, ?_⟩
      rw [Nat.mod_eq_sub_mod (by omega), Nat.mod_eq_of_lt (by omega)]
  rcases hm with ⟨h1, h2⟩ | ⟨h1, h2⟩ <;> rw [h2] at h <;> rw [Bool.eq_iff_iff] <;>
    simp only [Bool.or_eq_true, Bool.and_eq_true, Bool.not_eq_true', decide_eq_true_eq, decide_eq_false_iff_not] <;> omega

/-! ### `Add` and `Sub` -/

theorem aluAdd_value {w : Nat} (a b : BitVec w) (c : Bool) :
    (aluAdd a b c).value = a + b + (if c then 1#w else 0#w) := by
  apply BitVec.eq_of_toNat_eq
  cases c <;> simp [aluAdd, Nat.add_mod]

theorem aluSub_value {w : Nat} (a b : BitVec w) (c : Bool) :
    (aluSub a b c).value = a - b - (if c then 1#w else 0#w) := by
  cases c <;> rfl

theorem getLsbD_ofNat_lt {w : Nat} (n k : Nat) (h : k < w) : (BitVec.ofNat w n).getLsbD k = n.testBit k := by
  rw [BitVec.getLsbD_ofNat]
  simp [h]

/-- The flags of `Add` by the Boolean equations of R38. -/
theorem addFlags_eq {m : Nat} (hm : 4 ≤ m) (a b : BitVec (m + 1)) (c z : Bool) :
    addFlags m b a (aluAdd a b c).value z =
      [(.h, (aluAdd a b c).h), (.n, (aluAdd a b c).n), (.z, z && (aluAdd a b c).z), (.v, (aluAdd a b c).v),
        (.c, (aluAdd a b c).c)] := by
  have hc : c.toNat ≤ 1 := by cases c <;> decide
  have hbit : ∀ k, k ≤ m → (aluAdd a b c).value.getLsbD k = (a.toNat + b.toNat + c.toNat).testBit k :=
    fun k hk => getLsbD_ofNat_lt _ _ (by omega)
  have hH : (aluAdd a b c).h =
      decide (2 ^ (m - 4 + 1) ≤ a.toNat % 2 ^ (m - 4 + 1) + b.toNat % 2 ^ (m - 4 + 1) + c.toNat) := by
    simp only [aluAdd]; rw [show m + 1 - 4 = m - 4 + 1 by omega]
  have hC : (aluAdd a b c).c =
      decide (2 ^ (m + 1) ≤ a.toNat % 2 ^ (m + 1) + b.toNat % 2 ^ (m + 1) + c.toNat) := by
    simp only [aluAdd]; rw [Nat.mod_eq_of_lt a.isLt, Nat.mod_eq_of_lt b.isLt]
  rw [carry_eq _ _ _ _ hc] at hH hC
  have hN : (aluAdd a b c).n = (aluAdd a b c).value.getLsbD m :=
    BitVec.msb_eq_getLsbD_last (aluAdd a b c).value
  have hZ : (aluAdd a b c).z = decide ((aluAdd a b c).value.toNat = 0) := decide_eq_zero _
  have hV : (aluAdd a b c).v = ((a.getLsbD m == b.getLsbD m) && ((aluAdd a b c).value.getLsbD m != a.getLsbD m)) := by
    simp only [aluAdd, BitVec.msb_eq_getLsbD_last]
    rfl
  unfold addFlags
  rw [hH, hC, hN, hZ, hV, hbit (m - 4) (by omega), hbit m (Nat.le_refl m)]
  simp only [BitVec.getLsbD]
  generalize a.toNat.testBit m = x
  generalize b.toNat.testBit m = y
  generalize (a.toNat + b.toNat + c.toNat).testBit m = r
  cases x <;> cases y <;> cases r <;> rfl

/-- The flags of `Sub` by the Boolean equations of R38. -/
theorem subFlags_eq {m : Nat} (hm : 4 ≤ m) (a b : BitVec (m + 1)) (c z : Bool) :
    subFlags m b a (aluSub a b c).value z =
      [(.h, (aluSub a b c).h), (.n, (aluSub a b c).n), (.z, z && (aluSub a b c).z), (.v, (aluSub a b c).v),
        (.c, (aluSub a b c).c)] := by
  have hc : c.toNat ≤ 1 := by cases c <;> decide
  have hsum : a.toNat = ((aluSub a b c).value.toNat + b.toNat + c.toNat) % 2 ^ (m + 1) := by
    have h : a = (aluSub a b c).value + b + BitVec.ofNat (m + 1) c.toNat := by
      simp only [aluSub]; abel
    have h2 := congrArg BitVec.toNat h
    simpa [BitVec.toNat_add] using h2
  have hmod : ∀ k, k ≤ m → a.toNat % 2 ^ (k + 1) =
      ((aluSub a b c).value.toNat + b.toNat + c.toNat) % 2 ^ (k + 1) := by
    intro k hk
    conv_lhs => rw [hsum]
    exact Nat.mod_mod_of_dvd _ (Nat.pow_dvd_pow 2 (by omega))
  have hH : (aluSub a b c).h =
      decide (a.toNat % 2 ^ (m - 4 + 1) < b.toNat % 2 ^ (m - 4 + 1) + c.toNat) := by
    simp only [aluSub]; rw [show m + 1 - 4 = m - 4 + 1 by omega]
  have hC : (aluSub a b c).c = decide (a.toNat % 2 ^ (m + 1) < b.toNat % 2 ^ (m + 1) + c.toNat) := by
    simp only [aluSub]; rw [Nat.mod_eq_of_lt a.isLt, Nat.mod_eq_of_lt b.isLt]
  rw [borrow_eq _ _ _ _ _ hc (hmod _ (by omega))] at hH hC
  have hN : (aluSub a b c).n = (aluSub a b c).value.getLsbD m :=
    BitVec.msb_eq_getLsbD_last (aluSub a b c).value
  have hZ : (aluSub a b c).z = decide ((aluSub a b c).value.toNat = 0) := decide_eq_zero _
  have hV : (aluSub a b c).v = ((a.getLsbD m != b.getLsbD m) && ((aluSub a b c).value.getLsbD m != a.getLsbD m)) := by
    simp only [aluSub, BitVec.msb_eq_getLsbD_last]
    rfl
  unfold subFlags
  rw [hH, hC, hN, hZ, hV]
  simp only [BitVec.getLsbD]
  generalize a.toNat.testBit m = x
  generalize b.toNat.testBit m = y
  generalize (aluSub a b c).value.toNat.testBit m = r
  cases x <;> cases y <;> cases r <;> rfl

end Sys2Proof.Machine
end

