-- ==== Sys2Proof/Laws/Effects.lean ====
section
/-! SUPPORT. What each shared operand operation of Machine/Operands.lean can do, said once: the registers, the flags, memory,
and all that stays (R40, R141, R170, R230, R300, R322, R363). -/

namespace Sys2Proof.Machine

/-! ### The frame of an operation on data -/

/-- PC, the processing state, the inhibition, the prefetch and everything outside the CPU are unchanged. -/
structure DataFrame (s t : State) : Prop where
  pc : t.pc = s.pc
  control : SameControl s t
  outside : SameOutside s t

theorem SameControl.refl (s : State) : SameControl s s := by constructor <;> rfl

theorem SameControl.trans {s t u : State} (h : SameControl s t) (k : SameControl t u) : SameControl s u :=
  ⟨k.proc.trans h.proc, k.inhibitInt.trans h.inhibitInt, k.nmiDue.trans h.nmiDue, k.stale.trans h.stale⟩

theorem SameOutside.refl (s : State) : SameOutside s s := by constructor <;> rfl

theorem SameOutside.trans {s t u : State} (h : SameOutside s t) (k : SameOutside t u) : SameOutside s u :=
  ⟨k.pending.trans h.pending, k.lateNmi.trans h.lateNmi, k.resLow.trans h.resLow, k.stbyLow.trans h.stbyLow,
    k.busReq.trans h.busReq, k.ssby.trans h.ssby, k.mode.trans h.mode, k.uiIsMask.trans h.uiIsMask,
    k.hasEClock.trans h.hasEClock, k.memMap.trans h.memMap, k.env.trans h.env⟩

theorem DataFrame.refl (s : State) : DataFrame s s := ⟨rfl, .refl s, .refl s⟩

theorem DataFrame.trans {s t u : State} (h : DataFrame s t) (k : DataFrame t u) : DataFrame s u :=
  ⟨k.pc.trans h.pc, h.control.trans k.control, h.outside.trans k.outside⟩

theorem BusFrame.data {s t : State} (h : BusFrame s t) : DataFrame s t := ⟨h.pc, h.control, h.outside⟩

theorem State.setEr_frame (s : State) (n : ERn) (x : Long) : DataFrame s (s.setEr n x) :=
  ⟨rfl, ⟨rfl, rfl, rfl, rfl⟩, by constructor <;> rfl⟩

theorem State.setReg8_frame (s : State) (r : Reg8) (x : Byte) : DataFrame s (s.setReg8 r x) := by
  cases r <;> exact s.setEr_frame _ _

theorem State.setReg16_frame (s : State) (r : Reg16) (x : Word) : DataFrame s (s.setReg16 r x) := by
  cases r <;> exact s.setEr_frame _ _

theorem State.setCcr_frame (s : State) (c : Byte) : DataFrame s (s.setCcr c) :=
  ⟨rfl, ⟨rfl, rfl, rfl, rfl⟩, by constructor <;> rfl⟩

theorem State.setFlag_frame (s : State) (f : Flag) (b : Bool) : DataFrame s (s.setFlag f b) := s.setCcr_frame _

theorem State.moveFlags_frame {w : Nat} (s : State) (v : BitVec w) : DataFrame s (s.moveFlags v) := s.setCcr_frame _

theorem State.draw_frame (s : State) : DataFrame s s.draw.2 := ⟨rfl, ⟨rfl, rfl, rfl, rfl⟩, by constructor <;> rfl⟩

theorem State.freeEr_frame (s : State) (n : ERn) : DataFrame s (s.freeEr n) := s.draw_frame.trans (State.setEr_frame _ _ _)

/-! ### The effect of an operation on registers only -/

/-- Only registers and CCR change: `regs` says how the registers do, `fl` how the flags. -/
structure RegisterEffect (s t : State) (regs : State → Prop) (fl : List (Flag × Bool)) : Prop where
  frame : DataFrame s t
  mem : t.mem = s.mem
  regs : ∀ u : State, u.regs = t.regs → regs u
  flags : FlagsBecome s t fl

/-- `exec` answers the state after such an effect, with PC moved on. -/
theorem RegisterForm.of_effect {i : Instr} {s u : State} {k : Addr} {regs : State → Prop} {fl : List (Flag × Bool)}
    (he : exec i s = .next (u.advance k)) (hk : k = BitVec.ofNat 24 i.length) (h : RegisterEffect s u regs fl) :
    RegisterForm i s regs fl := by
  subst hk
  refine ⟨_, he, h.regs _ rfl, h.flags, SameMemory.of_mem h.mem, ?_, ?_, ?_⟩
  · show State.am u (u.pc + _) = _
    rw [h.frame.pc]; unfold State.am; rw [h.frame.outside.mode]
  · exact h.frame.control.trans ⟨rfl, rfl, rfl, rfl⟩
  · exact h.frame.outside.trans (by constructor <;> rfl)

/-- An 8-bit register and CCR are written. -/
theorem RegisterEffect.byte {s : State} {rd : Reg8} {v c : Byte} {fl : List (Flag × Bool)}
    (h : FlagsBecome s ((s.setReg8 rd v).setCcr c) fl) :
    RegisterEffect s ((s.setReg8 rd v).setCcr c) (fun t => OnlyByte s t rd v) fl :=
  ⟨(s.setReg8_frame rd v).trans (State.setCcr_frame _ c), by simp, fun _ hu => (s.setReg8_only rd v).of_regs hu, h⟩

/-- A 16-bit register and CCR are written. -/
theorem RegisterEffect.word {s : State} {rd : Reg16} {v : Word} {c : Byte} {fl : List (Flag × Bool)}
    (h : FlagsBecome s ((s.setReg16 rd v).setCcr c) fl) :
    RegisterEffect s ((s.setReg16 rd v).setCcr c) (fun t => OnlyWord s t rd v) fl :=
  ⟨(s.setReg16_frame rd v).trans (State.setCcr_frame _ c), by simp, fun _ hu => (s.setReg16_only rd v).of_regs hu, h⟩

/-- A 32-bit register and CCR are written. -/
theorem RegisterEffect.long {s : State} {d : ERn} {v : Long} {c : Byte} {fl : List (Flag × Bool)}
    (h : FlagsBecome s ((s.setEr d v).setCcr c) fl) :
    RegisterEffect s ((s.setEr d v).setCcr c) (fun t => OnlyLong s t d v) fl :=
  ⟨(s.setEr_frame d v).trans (State.setCcr_frame _ c), rfl, fun _ hu => (s.setEr_only d v).of_regs hu, h⟩

/-- Only an 8-bit register is written. -/
theorem RegisterEffect.byteOnly (s : State) (rd : Reg8) (v : Byte) :
    RegisterEffect s (s.setReg8 rd v) (fun t => OnlyByte s t rd v) [] :=
  ⟨s.setReg8_frame rd v, by simp, fun _ hu => (s.setReg8_only rd v).of_regs hu, .same (by simp)⟩

/-- Only a 16-bit register is written. -/
theorem RegisterEffect.wordOnly (s : State) (rd : Reg16) (v : Word) :
    RegisterEffect s (s.setReg16 rd v) (fun t => OnlyWord s t rd v) [] :=
  ⟨s.setReg16_frame rd v, by simp, fun _ hu => (s.setReg16_only rd v).of_regs hu, .same (by simp)⟩

/-- Only a 32-bit register is written. -/
theorem RegisterEffect.longOnly (s : State) (d : ERn) (v : Long) :
    RegisterEffect s (s.setEr d v) (fun t => OnlyLong s t d v) [] :=
  ⟨s.setEr_frame d v, rfl, fun _ hu => (s.setEr_only d v).of_regs hu, .same rfl⟩

/-- Only CCR is written. -/
theorem RegisterEffect.flagsOnly {s : State} {c : Byte} {fl : List (Flag × Bool)} (h : FlagsBecome s (s.setCcr c) fl) :
    RegisterEffect s (s.setCcr c) (SameRegisters s) fl :=
  ⟨s.setCcr_frame c, rfl, fun _ hu => .of_regs hu, h⟩

/-! ### Each register operation -/

theorem State.moveInto8_effect (s : State) (rd : Reg8) (v : Byte) :
    RegisterEffect s (s.moveInto8 rd v) (fun t => OnlyByte s t rd v) (testFlags v) :=
  .byte (.move (by simp))

theorem State.moveInto16_effect (s : State) (rd : Reg16) (v : Word) :
    RegisterEffect s (s.moveInto16 rd v) (fun t => OnlyWord s t rd v) (testFlags v) :=
  .word (.move (by simp))

theorem State.moveInto32_effect (s : State) (rd : ERn) (v : Long) :
    RegisterEffect s (s.moveInto32 rd v) (fun t => OnlyLong s t rd v) (testFlags v) :=
  .long (.move (by simp))

theorem State.alu8_effect (s : State) (rd : Reg8) (x : AluResult 8) :
    RegisterEffect s (s.alu8 rd x) (fun t => OnlyByte s t rd x.value)
      [(.h, x.h), (.n, x.n), (.z, x.z), (.v, x.v), (.c, x.c)] := .byte (.alu rfl)

theorem State.aluX8_effect (s : State) (rd : Reg8) (x : AluResult 8) :
    RegisterEffect s (s.aluX8 rd x) (fun t => OnlyByte s t rd x.value)
      [(.h, x.h), (.n, x.n), (.z, s.flag .z && x.z), (.v, x.v), (.c, x.c)] := .byte (.aluX rfl)

theorem State.alu16_effect (s : State) (rd : Reg16) (x : AluResult 16) :
    RegisterEffect s (s.alu16 rd x) (fun t => OnlyWord s t rd x.value)
      [(.h, x.h), (.n, x.n), (.z, x.z), (.v, x.v), (.c, x.c)] := .word (.alu rfl)

theorem State.alu32_effect (s : State) (rd : ERn) (x : AluResult 32) :
    RegisterEffect s (s.alu32 rd x) (fun t => OnlyLong s t rd x.value)
      [(.h, x.h), (.n, x.n), (.z, x.z), (.v, x.v), (.c, x.c)] := .long (.alu rfl)

theorem State.compare_effect {w : Nat} (s : State) (x : AluResult w) :
    RegisterEffect s (s.compare x) (SameRegisters s) [(.h, x.h), (.n, x.n), (.z, x.z), (.v, x.v), (.c, x.c)] :=
  .flagsOnly (.alu rfl)

theorem State.inc8_effect (s : State) (rd : Reg8) (k : Byte) :
    RegisterEffect s (s.inc8 rd k) (fun t => OnlyByte s t rd (s.reg8 rd + k)) (incFlags 7 (s.reg8 rd) (s.reg8 rd + k)) :=
  .byte (.inc rfl)

theorem State.inc16_effect (s : State) (rd : Reg16) (k : Word) :
    RegisterEffect s (s.inc16 rd k) (fun t => OnlyWord s t rd (s.reg16 rd + k))
      (incFlags 15 (s.reg16 rd) (s.reg16 rd + k)) := .word (.inc rfl)

theorem State.inc32_effect (s : State) (rd : ERn) (k : Long) :
    RegisterEffect s (s.inc32 rd k) (fun t => OnlyLong s t rd (s.er rd + k)) (incFlags 31 (s.er rd) (s.er rd + k)) :=
  .long (.inc rfl)

theorem State.dec8_effect (s : State) (rd : Reg8) (k : Byte) :
    RegisterEffect s (s.dec8 rd k) (fun t => OnlyByte s t rd (s.reg8 rd - k)) (decFlags 7 (s.reg8 rd) (s.reg8 rd - k)) :=
  .byte (.dec rfl)

theorem State.dec16_effect (s : State) (rd : Reg16) (k : Word) :
    RegisterEffect s (s.dec16 rd k) (fun t => OnlyWord s t rd (s.reg16 rd - k))
      (decFlags 15 (s.reg16 rd) (s.reg16 rd - k)) := .word (.dec rfl)

theorem State.dec32_effect (s : State) (rd : ERn) (k : Long) :
    RegisterEffect s (s.dec32 rd k) (fun t => OnlyLong s t rd (s.er rd - k)) (decFlags 31 (s.er rd) (s.er rd - k)) :=
  .long (.dec rfl)

theorem State.logic8_effect (s : State) (rd : Reg8) (r : Byte) :
    RegisterEffect s (s.logic8 rd r) (fun t => OnlyByte s t rd r) (testFlags r) := .byte (.logic rfl)

theorem State.logic16_effect (s : State) (rd : Reg16) (r : Word) :
    RegisterEffect s (s.logic16 rd r) (fun t => OnlyWord s t rd r) (testFlags r) := .word (.logic rfl)

theorem State.logic32_effect (s : State) (rd : ERn) (r : Long) :
    RegisterEffect s (s.logic32 rd r) (fun t => OnlyLong s t rd r) (testFlags r) := .long (.logic rfl)

theorem State.shift8_effect (s : State) (rd : Reg8) (x : ShiftResult 8) :
    RegisterEffect s (s.shift8 rd x) (fun t => OnlyByte s t rd x.value) (shiftFlags x.value x.c x.v) :=
  .byte (.shift rfl)

theorem State.shift16_effect (s : State) (rd : Reg16) (x : ShiftResult 16) :
    RegisterEffect s (s.shift16 rd x) (fun t => OnlyWord s t rd x.value) (shiftFlags x.value x.c x.v) :=
  .word (.shift rfl)

theorem State.shift32_effect (s : State) (rd : ERn) (x : ShiftResult 32) :
    RegisterEffect s (s.shift32 rd x) (fun t => OnlyLong s t rd x.value) (shiftFlags x.value x.c x.v) :=
  .long (.shift rfl)

theorem State.modifyReg_effect (s : State) (rd : Reg8) (f : Byte → Byte) :
    RegisterEffect s (s.modifyReg rd f) (fun t => OnlyByte s t rd (f (s.reg8 rd))) [] := .byteOnly s rd _

theorem State.testBit_effect (s : State) (x : Byte) (n : BitVec 3) :
    RegisterEffect s (s.testBit x n) (SameRegisters s) [(.z, !x.getLsbD n.toNat)] := .flagsOnly (.one rfl)

theorem State.carryBit_effect (s : State) (x : Byte) (n : BitVec 3) (f : Bool → Bool → Bool) :
    RegisterEffect s (s.carryBit x n f) (SameRegisters s) [(.c, f (s.flag .c) (x.getLsbD n.toNat))] :=
  .flagsOnly (.one rfl)

/-- Division: N and Z from the operands, the destination as the division gives it (D17; log 8). -/
theorem State.divInto16_effect (s : State) (rd : Reg16) (n z : Bool) (x : Option (Byte × Byte)) :
    ∃ v, RegisterEffect s ((s.setNZ n z).divInto16 rd x) (fun t => OnlyWord s t rd v) [(.n, n), (.z, z)] ∧
      ∀ r q, x = some (r, q) → v = r ++ q := by
  have key : ∀ (u : State) v, u.regs = s.regs → DataFrame s u → u.mem = s.mem → u.ccr = ccrNZ s.ccr n z →
      RegisterEffect s (u.setReg16 rd v) (fun t => OnlyWord s t rd v) [(.n, n), (.z, z)] := by
    intro u v hr hf hm hc
    refine ⟨hf.trans (State.setReg16_frame _ _ _), by simpa using hm, fun w hw => ?_, .nz (by simpa using hc)⟩
    exact ((u.setReg16_only rd v).of_regs hw).from_regs hr.symm
  cases x with
  | none => exact ⟨_, key _ _ rfl ((s.setCcr_frame _).trans (State.draw_frame _)) rfl rfl, fun _ _ h => nomatch h⟩
  | some p => exact ⟨_, key _ _ rfl (s.setCcr_frame _) rfl rfl, fun r q h => by cases h; rfl⟩

/-- Division: N and Z from the operands, the destination as the division gives it (D17; log 8). -/
theorem State.divInto32_effect (s : State) (rd : ERn) (n z : Bool) (x : Option (Word × Word)) :
    ∃ v, RegisterEffect s ((s.setNZ n z).divInto32 rd x) (fun t => OnlyLong s t rd v) [(.n, n), (.z, z)] ∧
      ∀ r q, x = some (r, q) → v = r ++ q := by
  have key : ∀ (u : State) v, u.regs = s.regs → DataFrame s u → u.mem = s.mem → u.ccr = ccrNZ s.ccr n z →
      RegisterEffect s (u.setEr rd v) (fun t => OnlyLong s t rd v) [(.n, n), (.z, z)] := by
    intro u v hr hf hm hc
    refine ⟨hf.trans (State.setEr_frame _ _ _), hm, fun w hw => ?_, .nz hc⟩
    exact ((u.setEr_only rd v).of_regs hw).from_regs hr.symm
  cases x with
  | none => exact ⟨_, key _ _ rfl ((s.setCcr_frame _).trans (State.draw_frame _)) rfl rfl, fun _ _ h => nomatch h⟩
  | some p => exact ⟨_, key _ _ rfl (s.setCcr_frame _) rfl rfl, fun r q h => by cases h; rfl⟩

/-! ### The effect of an operation that reads memory -/

/-- As `RegisterEffect`, but memory is unchanged only when no other master interferes. -/
structure LoadEffect (s t : State) (regs : State → Prop) (fl : List (Flag × Bool)) : Prop where
  frame : DataFrame s t
  mem : Quiet s → t.mem = s.mem
  regs : ∀ u : State, u.regs = t.regs → regs u
  flags : FlagsBecome s t fl

theorem RegisterEffect.load {s t : State} {regs : State → Prop} {fl : List (Flag × Bool)}
    (h : RegisterEffect s t regs fl) : LoadEffect s t regs fl := ⟨h.frame, fun _ => h.mem, h.regs, h.flags⟩

/-- `exec` answers the state after such an effect, with PC moved on. -/
theorem LoadForm.of_effect {i : Instr} {s u : State} {k : Addr} {regs : State → Prop} {fl : List (Flag × Bool)}
    (he : exec i s = .next (u.advance k)) (hk : k = BitVec.ofNat 24 i.length) (h : LoadEffect s u regs fl) :
    LoadForm i s regs fl := by
  subst hk
  refine ⟨_, he, h.regs _ rfl, h.flags, fun hq => SameMemory.of_mem (h.mem hq), ?_, ?_, ?_⟩
  · show State.am u (u.pc + _) = _
    rw [h.frame.pc]; unfold State.am; rw [h.frame.outside.mode]
  · exact h.frame.control.trans ⟨rfl, rfl, rfl, rfl⟩
  · exact h.frame.outside.trans (by constructor <;> rfl)

/-- An effect on the registers after a bus access that leaves registers and CCR alone. -/
theorem RegisterEffect.afterBus {s t u : State} {regs regs' : State → Prop} {fl : List (Flag × Bool)}
    (h : RegisterEffect t u regs fl) (hb : BusFrame s t) (hm : Quiet s → t.mem = s.mem)
    (hr : ∀ w, regs w → regs' w) (hf : ∀ f, fl.lookup f = none → ccrGet u.ccr f = ccrGet s.ccr f) :
    LoadEffect s u regs' fl := by
  refine ⟨hb.data.trans h.frame, fun hq => h.mem.trans (hm hq), fun w hw => hr w (h.regs w hw), fun f => ?_⟩
  cases hl : fl.lookup f with
  | none => exact hf f hl
  | some b => have := h.flags f; rw [hl] at this; exact this

/-- The same where the flags list does not depend on the old flags. -/
theorem RegisterEffect.afterLoad {s t u : State} {regs regs' : State → Prop} {fl : List (Flag × Bool)}
    (h : RegisterEffect t u regs fl) (hb : BusFrame s t) (hm : Quiet s → t.mem = s.mem) (hr : ∀ w, regs w → regs' w) :
    LoadEffect s u regs' fl := by
  refine h.afterBus hb hm hr fun f hl => ?_
  have := h.flags f
  rw [hl] at this
  exact this.trans (by rw [State.flag_eq, hb.ccr]; rfl)

theorem State.loadInto8_effect (s : State) (ea : Addr) (rd : Reg8) :
    LoadEffect s (s.loadInto8 ea rd) (fun t => OnlyByte s t rd (s.loadByte ea).1) (testFlags (s.loadByte ea).1) :=
  ((s.loadByte ea).2.moveInto8_effect rd _).afterLoad (s.loadByte_frame ea) (fun hq => hq.loadByte_mem ea)
    fun _ h => h.from_regs (s.loadByte_frame ea).regs.symm

theorem State.loadInto16_effect (s : State) (ea : Addr) (rd : Reg16) :
    LoadEffect s (s.loadInto16 ea rd) (fun t => OnlyWord s t rd (s.loadWord ea).1) (testFlags (s.loadWord ea).1) :=
  ((s.loadWord ea).2.moveInto16_effect rd _).afterLoad (s.loadWord_frame ea) (fun hq => hq.loadWord_mem ea)
    fun _ h => h.from_regs (s.loadWord_frame ea).regs.symm

theorem State.loadInto32_effect (s : State) (ea : Addr) (rd : ERn) :
    LoadEffect s (s.loadInto32 ea rd) (fun t => OnlyLong s t rd (s.loadLong ea).1) (testFlags (s.loadLong ea).1) :=
  ((s.loadLong ea).2.moveInto32_effect rd _).afterLoad (s.loadLong_frame ea) (fun hq => hq.loadLong_mem ea)
    fun _ h => h.from_regs (s.loadLong_frame ea).regs.symm

theorem State.testBitMem_effect (s : State) (ea : Addr) (n : BitVec 3) :
    LoadEffect s (s.testBitMem ea n) (SameRegisters s) [(.z, !(s.loadByte ea).1.getLsbD n.toNat)] :=
  ((s.loadByte ea).2.testBit_effect _ n).afterLoad (s.loadByte_frame ea) (fun hq => hq.loadByte_mem ea)
    fun _ h m => (h m).trans (State.er_eq_of_regs (s.loadByte_frame ea).regs m)

theorem State.carryBitMem_effect (s : State) (ea : Addr) (n : BitVec 3) (f : Bool → Bool → Bool) :
    LoadEffect s (s.carryBitMem ea n f) (SameRegisters s) [(.c, f (s.flag .c) ((s.loadByte ea).1.getLsbD n.toNat))] := by
  have h := (s.loadByte ea).2.carryBit_effect (s.loadByte ea).1 n f
  rw [show (s.loadByte ea).2.flag .c = s.flag .c by rw [State.flag_eq, State.flag_eq, (s.loadByte_frame ea).ccr]] at h
  exact h.afterLoad (s.loadByte_frame ea) (fun hq => hq.loadByte_mem ea)
    fun _ k m => (k m).trans (State.er_eq_of_regs (s.loadByte_frame ea).regs m)

/-- @ERs+ for a byte: pointer and destination, open where the destination is part of the pointer (R172, D24). -/
theorem State.loadPostInc8_effect (s : State) (ers : ERn) (rd : Reg8) :
    LoadEffect s (s.loadPostInc8 ers rd) (fun t => PostIncByte s t ers rd (s.loadByte (s.eaInd ers)).1)
      (testFlags (s.loadByte (s.eaInd ers)).1) := by
  have hb := s.loadByte_frame (s.eaInd ers)
  unfold State.loadPostInc8
  dsimp only
  split
  · next hw =>
    refine ⟨(hb.data.trans (State.setEr_frame _ _ _)).trans ((State.freeEr_frame _ _).trans (State.moveFlags_frame _ _)),
      fun hq => hq.loadByte_mem _, fun u hu => ?_, .move (by simp [hb.ccr])⟩
    have ho : ∀ n, n ≠ ers → u.er n = s.er n := fun n hn => by
      rw [State.er_eq_of_regs hu]
      exact (State.er_setEr_ne _ _ hn).trans ((State.er_setEr_ne _ _ hn).trans (State.er_eq_of_regs hb.regs n))
    refine ⟨fun h => absurd hw h, fun r _ hr => ?_, fun n hn => ?_⟩
    · rw [State.reg8_eq_byteOf, State.reg8_eq_byteOf, ho _ hr]
    · show (u.er n).extractLsb' 16 16 = (s.er n).extractLsb' 16 16
      rw [ho n hn]
  · next hw =>
    refine ⟨(hb.data.trans (State.setEr_frame _ _ _)).trans ((State.setReg8_frame _ _ _).trans (State.moveFlags_frame _ _)),
      fun hq => by simpa using hq.loadByte_mem _, fun u hu => ?_, .move (by simp [hb.ccr])⟩
    have ho := ((s.loadByte (s.eaInd ers)).2.setEr ers (s.er ers + 1)).setReg8_only rd (s.loadByte (s.eaInd ers)).1
    replace ho := ho.of_regs hu
    have he : ∀ n, n ≠ ers → ((s.loadByte (s.eaInd ers)).2.setEr ers (s.er ers + 1)).er n = s.er n := fun n hn =>
      (State.er_setEr_ne _ _ hn).trans (State.er_eq_of_regs hb.regs n)
    refine ⟨fun _ => ⟨ho.1, ?_⟩, fun r hr hrw => ?_, fun n hn => ?_⟩
    · rw [State.er_eq_of_regs hu]
      show (State.setReg8 _ rd _).er ers = _
      obtain ⟨y, hy, -⟩ := State.setReg8_eq ((s.loadByte (s.eaInd ers)).2.setEr ers (s.er ers + 1)) rd
        (s.loadByte (s.eaInd ers)).1
      rw [hy, State.er_setEr_ne _ _ (Ne.symm hw), State.er_setEr_same]
    · rw [ho.2.1 r hr, State.reg8_eq_byteOf, State.reg8_eq_byteOf, he _ hrw]
    · rw [ho.2.2 n]
      show ((State.setEr _ ers _).er n).extractLsb' 16 16 = (s.er n).extractLsb' 16 16
      rw [he n hn]

/-- @ERs+ for a word. -/
theorem State.loadPostInc16_effect (s : State) (ers : ERn) (rd : Reg16) :
    LoadEffect s (s.loadPostInc16 ers rd) (fun t => PostIncWord s t ers rd (s.loadWord (s.eaInd ers)).1)
      (testFlags (s.loadWord (s.eaInd ers)).1) := by
  have hb := s.loadWord_frame (s.eaInd ers)
  unfold State.loadPostInc16
  dsimp only
  split
  · next hw =>
    refine ⟨(hb.data.trans (State.setEr_frame _ _ _)).trans ((State.freeEr_frame _ _).trans (State.moveFlags_frame _ _)),
      fun hq => hq.loadWord_mem _, fun u hu => ?_, .move (by simp [hb.ccr])⟩
    refine ⟨fun h => absurd hw h, fun r _ hr => ?_⟩
    rw [State.reg16_eq_wordOf, State.reg16_eq_wordOf, State.er_eq_of_regs hu]
    exact congrArg (wordOf r)
      ((State.er_setEr_ne _ _ hr).trans ((State.er_setEr_ne _ _ hr).trans (State.er_eq_of_regs hb.regs r.whole)))
  · next hw =>
    refine ⟨(hb.data.trans (State.setEr_frame _ _ _)).trans ((State.setReg16_frame _ _ _).trans (State.moveFlags_frame _ _)),
      fun hq => by simpa using hq.loadWord_mem _, fun u hu => ?_, .move (by simp [hb.ccr])⟩
    have ho := ((s.loadWord (s.eaInd ers)).2.setEr ers (s.er ers + 2)).setReg16_only rd (s.loadWord (s.eaInd ers)).1
    replace ho := ho.of_regs hu
    refine ⟨fun _ => ⟨ho.1, ?_⟩, fun r hr hrw => ?_⟩
    · rw [State.er_eq_of_regs hu]
      show (State.setReg16 _ rd _).er ers = _
      obtain ⟨y, hy, -⟩ := State.setReg16_eq ((s.loadWord (s.eaInd ers)).2.setEr ers (s.er ers + 2)) rd
        (s.loadWord (s.eaInd ers)).1
      rw [hy, State.er_setEr_ne _ _ (Ne.symm hw), State.er_setEr_same]
    · rw [ho.2 r hr, State.reg16_eq_wordOf, State.reg16_eq_wordOf]
      exact congrArg (wordOf r) ((State.er_setEr_ne _ _ hrw).trans (State.er_eq_of_regs hb.regs r.whole))

/-- @ERs+ for a longword. -/
theorem State.loadPostInc32_effect (s : State) (ers erd : ERn) :
    LoadEffect s (s.loadPostInc32 ers erd) (fun t => PostIncLong s t ers erd (s.loadLong (s.eaInd ers)).1)
      (testFlags (s.loadLong (s.eaInd ers)).1) := by
  have hb := s.loadLong_frame (s.eaInd ers)
  unfold State.loadPostInc32
  dsimp only
  split
  · next hw =>
    refine ⟨(hb.data.trans (State.setEr_frame _ _ _)).trans ((State.freeEr_frame _ _).trans (State.moveFlags_frame _ _)),
      fun hq => hq.loadLong_mem _, fun u hu => ?_, .move (by simp [hb.ccr])⟩
    refine ⟨fun h => absurd hw h, fun n _ hn => ?_⟩
    rw [State.er_eq_of_regs hu]
    exact (State.er_setEr_ne _ _ hn).trans ((State.er_setEr_ne _ _ hn).trans (State.er_eq_of_regs hb.regs n))
  · next hw =>
    refine ⟨(hb.data.trans (State.setEr_frame _ _ _)).trans ((State.setEr_frame _ _ _).trans (State.moveFlags_frame _ _)),
      fun hq => hq.loadLong_mem _, fun u hu => ?_, .move (by simp [hb.ccr])⟩
    refine ⟨fun _ => ⟨?_, ?_⟩, fun n hn hne => ?_⟩
    · rw [State.er_eq_of_regs hu]; exact State.er_setEr_same _ _ _
    · rw [State.er_eq_of_regs hu]; exact (State.er_setEr_ne _ _ (Ne.symm hw)).trans (State.er_setEr_same _ _ _)
    · rw [State.er_eq_of_regs hu]
      exact (State.er_setEr_ne _ _ hn).trans ((State.er_setEr_ne _ _ hne).trans (State.er_eq_of_regs hb.regs n))

/-! ### The effect of an operation that stores -/

/-- The listed cells are stored; `regs` and `fl` as before. -/
structure StoreEffect (s t : State) (regs : State → Prop) (fl : List (Flag × Bool)) (cells : List (Addr × Byte))
    (free : List Addr) : Prop where
  frame : DataFrame s t
  mem : Quiet s → Stored s t cells free
  regs : ∀ u : State, u.regs = t.regs → regs u
  flags : FlagsBecome s t fl

theorem Stored.of_mem {s t u : State} {cells : List (Addr × Byte)} {free : List Addr} (h : Stored s t cells free)
    (e : u.mem = t.mem) : Stored s u cells free := fun a ha => (State.peek_eq_of_mem e a).trans (h a ha)

/-- `exec` answers the state after such an effect, with PC moved on. -/
theorem StoreForm.of_effect {i : Instr} {s u : State} {k : Addr} {regs : State → Prop} {fl : List (Flag × Bool)}
    {cells : List (Addr × Byte)} {free : List Addr}
    (he : exec i s = .next (u.advance k)) (hk : k = BitVec.ofNat 24 i.length) (h : StoreEffect s u regs fl cells free) :
    StoreForm i s regs fl cells free := by
  subst hk
  refine ⟨_, he, h.regs _ rfl, h.flags, fun hq => (h.mem hq).of_mem rfl, ?_, ?_, ?_⟩
  · show State.am u (u.pc + _) = _
    rw [h.frame.pc]; unfold State.am; rw [h.frame.outside.mode]
  · exact h.frame.control.trans ⟨rfl, rfl, rfl, rfl⟩
  · exact h.frame.outside.trans (by constructor <;> rfl)

theorem lookup_append (l m : List (Addr × Byte)) (a : Addr) :
    List.lookup a (l ++ m) = (List.lookup a l).or (List.lookup a m) := by
  induction l with
  | nil => rfl
  | cons x l ih =>
    obtain ⟨k, b⟩ := x
    rw [List.cons_append, lookup_cons_if, lookup_cons_if, ih]
    split <;> rfl

theorem wordCells_congr {s t : State} (h : t.mode = s.mode) (ea : Addr) (v : Word) : wordCells t ea v = wordCells s ea v := by
  unfold wordCells State.wordBase State.am
  rw [h]

theorem State.accessKind_congr {s t : State} (h : t.memMap = s.memMap) (a : Addr) : t.accessKind a = s.accessKind a := by
  unfold State.accessKind
  rw [h]

/-- One store after another: where both write, the later one stands. -/
theorem Stored.trans {s t u : State} {c1 c2 : List (Addr × Byte)} {f1 f2 : List Addr} (h : Stored s t c1 f1)
    (k : Stored t u c2 f2) (hm : t.memMap = s.memMap) : Stored s u (c2 ++ c1) (f1 ++ f2) := by
  intro a ha
  rw [k a (fun h => ha (List.mem_append_right _ h)), h a (fun h => ha (List.mem_append_left _ h)),
    State.accessKind_congr hm, lookup_append]
  split
  · cases List.lookup a c2 <;> rfl
  · rfl

/-- The even address of a word and the odd address of any word are different. -/
theorem odd_ne_even (s : State) (a b : Addr) : s.wordBase a ||| 1#24 ≠ s.wordBase b := by
  intro h
  have h0 := congrArg (fun x : Addr => x.getLsbD 0) h
  simp only [BitVec.getLsbD_or] at h0
  rw [show (s.wordBase a).getLsbD 0 = false from evenAddr_getLsbD_zero _,
    show (s.wordBase b).getLsbD 0 = false from evenAddr_getLsbD_zero _] at h0
  simp at h0

theorem odd_inj {s : State} {a b : Addr} (h : s.wordBase a ||| 1#24 = s.wordBase b ||| 1#24) :
    s.wordBase a = s.wordBase b := by
  have ha := evenAddr_getLsbD_zero (s.am a)
  have hb := evenAddr_getLsbD_zero (s.am b)
  change (s.wordBase a).getLsbD 0 = false at ha
  change (s.wordBase b).getLsbD 0 = false at hb
  apply BitVec.eq_of_getLsbD_eq
  intro k hk
  have hx := congrArg (fun x : Addr => x.getLsbD k) h
  simp only [BitVec.getLsbD_or] at hx
  rcases Nat.eq_zero_or_pos k with h0 | h0
  · rw [h0, ha, hb]
  · have h1 : (1#24).getLsbD k = false := by
      rw [BitVec.getLsbD_one]; simp; omega
    simpa [h1] using hx

/-- The two words of a longword do not share a byte. -/
theorem wordBase_add_two_ne (s : State) (ea : Addr) : s.wordBase (ea + 2) ≠ s.wordBase ea := by
  intro h
  have h := congrArg BitVec.toNat h
  unfold State.wordBase at h
  rw [evenAddr_toNat, evenAddr_toNat, State.am_toNat, State.am_toNat, BitVec.toNat_add] at h
  have h2 : (2 : Addr).toNat = 2 := rfl
  have := ea.isLt
  rw [h2] at h
  cases hm : s.mode <;> simp only [hm] at h <;> omega

/-- A longword store changes the four bytes there and no other. -/
theorem Quiet.storeLong_stored {s : State} (hq : Quiet s) (ea : Addr) (v : Long) :
    Stored s (s.storeLong ea v) (longCells s ea v) [] := by
  have hb1 := s.storeWord_frame (s.wordBase ea) (v.extractLsb' 16 16)
  have h1 := hq.storeWord_stored (s.wordBase ea) (v.extractLsb' 16 16)
  have h2 := (hq.storeWord (s.wordBase ea) (v.extractLsb' 16 16)).storeWord_stored (s.wordBase ea + 2) (v.extractLsb' 0 16)
  have h := h1.trans h2 hb1.memMap
  rw [wordCells_congr hb1.mode] at h
  intro a ha
  have hh := h a (by simp)
  show (State.storeWord _ _ _).peek a = _
  refine Eq.trans hh ?_
  have e1 : ∀ x, wordCells s (s.wordBase ea) x = wordCells s ea x := fun x => by
    unfold wordCells; rw [State.wordBase_wordBase]
  have e2 : ∀ x, wordCells s (s.wordBase ea + 2) x = wordCells s (ea + 2) x := fun x => by
    unfold wordCells; rw [State.wordBase_add_two]
  rw [e1, e2]
  unfold longCells
  rw [lookup_append, lookup_append]
  unfold wordCells
  simp only [lookup_cons_if]
  have n1 := wordBase_add_two_ne s ea
  have n2 := odd_ne_even s ea (ea + 2)
  have n3 := odd_ne_even s (ea + 2) ea
  have n4 : s.wordBase (ea + 2) ||| 1#24 ≠ s.wordBase ea ||| 1#24 := fun h => n1 (odd_inj h)
  generalize s.wordBase (ea + 2) = b2 at *
  by_cases c1 : a = s.wordBase ea
  · subst c1; simp [n1.symm, n3.symm]
  · by_cases c2 : a = s.wordBase ea ||| 1#24
    · subst c2; simp [n2, n4.symm, c1]
    · simp [c1, c2]

theorem State.storeFrom8_effect (s : State) (ea : Addr) (v : Byte) :
    StoreEffect s (s.storeFrom8 ea v) (SameRegisters s) (testFlags v) (byteCells s ea v) [] :=
  ⟨(s.storeByte_frame ea v).data.trans (State.moveFlags_frame _ _), fun hq => (hq.storeByte_stored ea v).of_mem rfl,
    fun _ hu => .of_regs (hu.trans (s.storeByte_frame ea v).regs), .move (congrArg (ccrMove · v) (s.storeByte_frame ea v).ccr)⟩

theorem State.storeFrom16_effect (s : State) (ea : Addr) (v : Word) :
    StoreEffect s (s.storeFrom16 ea v) (SameRegisters s) (testFlags v) (wordCells s ea v) [] :=
  ⟨(s.storeWord_frame ea v).data.trans (State.moveFlags_frame _ _), fun hq => (hq.storeWord_stored ea v).of_mem rfl,
    fun _ hu => .of_regs (hu.trans (s.storeWord_frame ea v).regs), .move (congrArg (ccrMove · v) (s.storeWord_frame ea v).ccr)⟩

theorem State.storeFrom32_effect (s : State) (ea : Addr) (v : Long) :
    StoreEffect s (s.storeFrom32 ea v) (SameRegisters s) (testFlags v) (longCells s ea v) [] :=
  ⟨(s.storeLong_frame ea v).data.trans (State.moveFlags_frame _ _), fun hq => (hq.storeLong_stored ea v).of_mem rfl,
    fun _ hu => .of_regs (hu.trans (s.storeLong_frame ea v).regs), .move (congrArg (ccrMove · v) (s.storeLong_frame ea v).ccr)⟩

/-- A store from a state that differs only in the pointer register. -/
theorem StoreEffect.afterSetEr {s u : State} {d : ERn} {p : Long} {fl : List (Flag × Bool)}
    {cells : List (Addr × Byte)} {free : List Addr} (h : StoreEffect (s.setEr d p) u (SameRegisters (s.setEr d p)) fl cells free) :
    StoreEffect s u (fun t => OnlyLong s t d p) fl cells free :=
  ⟨(s.setEr_frame d p).trans h.frame, fun hq => h.mem hq, fun w hw =>
    ⟨(h.regs w hw d).trans (s.er_setEr_same d p), fun n hn => (h.regs w hw n).trans (s.er_setEr_ne p hn)⟩, h.flags⟩

/-- @-ERd for a byte (R145, R172). -/
theorem State.storePreDec8_effect (s : State) (rs : Reg8) (erd : ERn) :
    StoreEffect s (s.storePreDec8 rs erd) (fun t => OnlyLong s t erd (s.er erd - 1))
      (testFlags (byteOf rs (if rs.whole = erd then s.er erd - 1 else s.er rs.whole)))
      (byteCells s (low24 (s.er erd - 1)) (byteOf rs (if rs.whole = erd then s.er erd - 1 else s.er rs.whole))) [] := by
  have h := (s.setEr erd (s.er erd - 1)).storeFrom8_effect (low24 (s.er erd - 1)) ((s.setEr erd (s.er erd - 1)).reg8 rs)
  have e : (s.setEr erd (s.er erd - 1)).eaInd erd = low24 (s.er erd - 1) := by
    unfold State.eaInd; rw [State.er_setEr_same]
  unfold State.storePreDec8
  dsimp only
  rw [e]
  have h := h.afterSetEr
  rw [State.reg8_eq_byteOf, State.er_setEr] at h
  rw [State.reg8_eq_byteOf, State.er_setEr]
  exact h

/-- @-ERd for a word (R145, R172). -/
theorem State.storePreDec16_effect (s : State) (rs : Reg16) (erd : ERn) :
    StoreEffect s (s.storePreDec16 rs erd) (fun t => OnlyLong s t erd (s.er erd - 2))
      (testFlags (wordOf rs (if rs.whole = erd then s.er erd - 2 else s.er rs.whole)))
      (wordCells s (low24 (s.er erd - 2)) (wordOf rs (if rs.whole = erd then s.er erd - 2 else s.er rs.whole))) [] := by
  have h := (s.setEr erd (s.er erd - 2)).storeFrom16_effect (low24 (s.er erd - 2)) ((s.setEr erd (s.er erd - 2)).reg16 rs)
  have e : (s.setEr erd (s.er erd - 2)).eaInd erd = low24 (s.er erd - 2) := by
    unfold State.eaInd; rw [State.er_setEr_same]
  unfold State.storePreDec16
  dsimp only
  rw [e]
  have h := h.afterSetEr
  rw [State.reg16_eq_wordOf, State.er_setEr] at h
  rw [State.reg16_eq_wordOf, State.er_setEr]
  exact h

/-- @-ERd for a longword (R145, R172). -/
theorem State.storePreDec32_effect (s : State) (ers erd : ERn) :
    StoreEffect s (s.storePreDec32 ers erd) (fun t => OnlyLong s t erd (s.er erd - 4))
      (testFlags (if ers = erd then s.er erd - 4 else s.er ers))
      (longCells s (low24 (s.er erd - 4)) (if ers = erd then s.er erd - 4 else s.er ers)) [] := by
  have h := (s.setEr erd (s.er erd - 4)).storeFrom32_effect (low24 (s.er erd - 4)) ((s.setEr erd (s.er erd - 4)).er ers)
  have e : (s.setEr erd (s.er erd - 4)).eaInd erd = low24 (s.er erd - 4) := by
    unfold State.eaInd; rw [State.er_setEr_same]
  unfold State.storePreDec32
  dsimp only
  rw [e]
  have h := h.afterSetEr
  rw [State.er_setEr] at h
  rw [State.er_setEr]
  exact h

/-- The bit write on memory: the byte there becomes `f` of it (R363). -/
theorem State.modifyMem_frame (s : State) (ea : Addr) (f : Byte → Byte) : BusFrame s (s.modifyMem ea f) :=
  (s.loadByte_frame ea).trans (State.storeByte_frame _ ea _)

theorem Quiet.peek_modifyMem {s : State} (hq : Quiet s) (ea : Addr) (f : Byte → Byte) (a : Addr) :
    (s.modifyMem ea f).peek a = if a = s.am ea ∧ s.accessKind a = .memory then f (s.peek a) else s.peek a := by
  have hb := s.loadByte_frame ea
  have h := (hq.loadByte ea).storeByte_stored ea (f (s.loadByte ea).1) a (by simp)
  show ((s.loadByte ea).2.storeByte ea (f (s.loadByte ea).1)).peek a = _
  rw [h, State.accessKind_congr hb.memMap, State.peek_eq_of_mem (hq.loadByte_mem ea)]
  unfold byteCells
  rw [lookup_cons_if, show (s.loadByte ea).2.am ea = s.am ea by unfold State.am; rw [hb.mode]]
  by_cases hm : s.accessKind a = .memory
  · by_cases ha : a = s.am ea
    · subst ha
      rw [s.loadByte_read ea hq (.inl hm)]
      simp [hm]
    · simp [ha]
  · simp [hm]

/-! ### CCR and memory -/

/-- LDC.W: the byte at the even address becomes CCR (R436). -/
theorem State.ldcW_spec (s : State) (ea : Addr) :
    (s.ldcW ea).ccr = (s.loadWord ea).1.extractLsb' 8 8 ∧ (s.ldcW ea).inhibitInt = true ∧ (s.ldcW ea).regs = s.regs ∧
      (s.ldcW ea).pc = s.pc ∧ (s.ldcW ea).proc = s.proc ∧ (s.ldcW ea).nmiDue = s.nmiDue ∧
      (s.ldcW ea).stale = s.stale ∧ SameOutside s (s.ldcW ea) ∧ (Quiet s → (s.ldcW ea).mem = s.mem) :=
  have hb := s.loadWord_frame ea
  ⟨rfl, rfl, hb.regs, hb.pc, hb.proc, hb.nmiDue, hb.stale, hb.outside.trans (by constructor <;> rfl),
    fun hq => hq.loadWord_mem ea⟩

/-- STC.W: CCR at the even address, an open byte at the odd one (R444, R447). -/
theorem State.stcW_effect (s : State) (ea : Addr) :
    StoreEffect s (s.stcW ea) (SameRegisters s) [] [(s.wordBase ea, s.ccr)] [s.wordBase ea ||| 1#24] := by
  have hb : BusFrame s (s.stcW ea) := s.drawByte_frame.trans (State.storeWord_frame _ ea _)
  refine ⟨hb.data, fun hq a ha => ?_, fun _ hu => .of_regs (hu.trans hb.regs), .same hb.ccr⟩
  have h := Quiet.storeWord_stored (s := s.drawByte.2) hq ea (s.ccr ++ s.drawByte.1) a (by simp)
  refine Eq.trans h ?_
  have ha' : a ≠ s.wordBase ea ||| 1#24 := by simpa using ha
  show (if s.accessKind a = .memory then (List.lookup a (wordCells s ea _)).getD (s.peek a) else s.peek a) = _
  unfold wordCells
  simp only [lookup_cons_if]
  have e : (s.ccr ++ s.drawByte.1).extractLsb' 8 8 = s.ccr := extract_high _ _
  rw [e]
  by_cases h1 : a = s.wordBase ea <;> simp [h1, ha']

end Sys2Proof.Machine
end

