-- ==== Sys2Proof/Laws/Encoding.lean ====
section
/-! SUPPORT. The fields of instruction words: taking a word apart and putting it together are inverse to each other
(R100 to R108). -/

namespace Sys2Proof

theorem Quad.ofWord_toWord (q : Quad) : Quad.ofWord q.toWord = q := by
  cases q
  simp only [Quad.ofWord, Quad.toWord, Quad.mk.injEq]
  refine ⟨?_, ?_, ?_, ?_⟩ <;> (apply BitVec.eq_of_getLsbD_eq; intro k hk; simp; grind)

theorem Quad.toWord_ofWord (w : Word) : (Quad.ofWord w).toWord = w := by
  apply BitVec.eq_of_getLsbD_eq
  intro k hk
  simp [Quad.ofWord, Quad.toWord]
  grind

theorem byte_of_nibbles (x : Byte) : nibHi x ++ nibLo x = x := by
  apply BitVec.eq_of_getLsbD_eq
  intro k hk
  simp [nibHi, nibLo]
  grind

/-- The second byte of a word written from a byte's nibbles is that byte. -/
theorem Quad.lowByte_nibbles (a b : BitVec 4) (x : Byte) : (Quad.mk a b (nibHi x) (nibLo x)).lowByte = x :=
  byte_of_nibbles x

theorem addrOf_parts (x : Addr) : addrOf (addrTop x) (addrLow x) = x := by
  apply BitVec.eq_of_getLsbD_eq
  intro k hk
  simp [addrOf, addrTop, addrLow]
  grind

theorem longOf_parts (x : Long) : longOf (longHigh x) (longLow x) = x := by
  apply BitVec.eq_of_getLsbD_eq
  intro k hk
  simp [longOf, longHigh, longLow]
  grind

theorem nibTop_nib0 (n : BitVec 3) : nibTop (nib0 n) = false := by revert n; decide

theorem nibTop_nib1 (n : BitVec 3) : nibTop (nib1 n) = true := by revert n; decide

theorem nibField_nib0 (n : BitVec 3) : nibField (nib0 n) = n := by revert n; decide

theorem nibField_nib1 (n : BitVec 3) : nibField (nib1 n) = n := by revert n; decide

/-- A nibble with top bit 0 is the field under a fixed 0. -/
theorem nib0_nibField (x : BitVec 4) (h : nibTop x = false) : nib0 (nibField x) = x := by revert x; decide

/-- A nibble with top bit 1 is the field under a fixed 1. -/
theorem nib1_nibField (x : BitVec 4) (h : nibTop x = true) : nib1 (nibField x) = x := by revert x; decide

theorem Reg8.ofNib_nib (r : Reg8) : Reg8.ofNib r.nib = r := by
  cases r <;> simp [Reg8.ofNib, Reg8.nib, nibTop_nib0, nibTop_nib1, nibField_nib0, nibField_nib1]

theorem Reg8.nib_ofNib (x : BitVec 4) : (Reg8.ofNib x).nib = x := by revert x; decide

theorem Reg16.ofNib_nib (r : Reg16) : Reg16.ofNib r.nib = r := by
  cases r <;> simp [Reg16.ofNib, Reg16.nib, nibTop_nib0, nibTop_nib1, nibField_nib0, nibField_nib1]

theorem Reg16.nib_ofNib (x : BitVec 4) : (Reg16.ofNib x).nib = x := by revert x; decide

/-- The bit-number and address-register nibble with 7 in it: PUSH and POP (R217, R218, R220, R221). -/
theorem nib0_eq_seven (n : BitVec 3) : nib0 n = 0x7#4 ↔ n = 7#3 := by revert n; decide

theorem nib1_eq_fifteen (n : BitVec 3) : nib1 n = 0xF#4 ↔ n = 7#3 := by revert n; decide

theorem nib0_ne_fifteen (n : BitVec 3) : nib0 n ≠ 0xF#4 := by revert n; decide

theorem nib1_ne_seven (n : BitVec 3) : nib1 n ≠ 0x7#4 := by revert n; decide

end Sys2Proof
end

