-- ==== Sys2Proof/Laws/Fetch.lean ====
section
/-! SUPPORT. The prefetch after an instruction (R80, R400 (e), R404, R543). -/

namespace Sys2Proof.Machine

set_option Elab.async false

/-- The bytes the prefetch may keep of what an instruction changed are bytes it changed. -/
theorem lookup_ne_of_mem_changedAhead {s t : State} {x : Host.Cell} (h : x ∈ changedAhead s t) :
    Memory.lookup s.mem x.1 ≠ Memory.lookup t.mem x.1 := by
  simp only [changedAhead, List.mem_map, List.mem_filter] at h
  obtain ⟨a, ⟨-, h⟩, rfl⟩ := h
  simpa using h

/-- After a transfer of control the prefetch keeps nothing but what a call's own push changed. -/
theorem prefetchAfter_of_transfer {i : Instr} {s t : State} (h : transfersControl i s = true) :
    (prefetchAfter i s t).stale = [] ∨ pushesAfterFetch i = true ∧ (prefetchAfter i s t).stale = changedAhead s t := by
  unfold prefetchAfter
  rw [h]
  cases fetchesLast i <;> cases pushesAfterFetch i <;> simp

/-- The model's test of a transfer of control holds where R401 and the jumps, calls, returns and TRAPA say so. -/
theorem transfersControl_of_takesTransfer {i : Instr} {s : State} (h : TakesTransfer i s) : transfersControl i s = true := by
  cases i
  all_goals first | exact h.elim | exact rfl | skip
  all_goals
    delta TakesTransfer at h
    delta transfersControl
    dsimp only [State.flag] at h ⊢
    simp only [branchCond]
    generalize ccrGet s.ccr .c = c at *
    generalize ccrGet s.ccr .z = z at *
    generalize ccrGet s.ccr .n = n at *
    generalize ccrGet s.ccr .v = v at *
    revert c z n v
    decide

end Sys2Proof.Machine
end

