-- ==== Sys2Proof/Laws/Frames.lean ====
section
/-! SUPPORT. What the stack frames, the entry of an exception and the returns can do, said once (R404, R483 to R488, R495,
R530). -/

namespace Sys2Proof.Machine

theorem low24_add (x y : Long) : low24 (x + y) = low24 x + low24 y := BitVec.setWidth_add _ _ (by decide)

theorem State.sp_eq_of_regs {s t : State} (h : t.regs = s.regs) : t.sp = s.sp := State.er_eq_of_regs h 7#3

theorem State.wordBase_congr {s t : State} (h : t.mode = s.mode) (a : Addr) : t.wordBase a = s.wordBase a := by
  unfold State.wordBase State.am
  rw [h]

theorem Stored.of_peek {s s' t : State} {c : List (Addr × Byte)} {f : List Addr} (h : Stored s t c f)
    (hm : s'.mem = s.mem) (hk : s'.memMap = s.memMap) : Stored s' t c f := fun a ha => by
  rw [h a ha, State.accessKind_congr hk, State.peek_eq_of_mem hm]

/-- A word stored at `ea` and a word stored after it at `ea + 2`, in either order: the four bytes. -/
theorem lookup_words (s : State) (ea : Addr) (x y : Word) (a : Addr) :
    List.lookup a (wordCells s (ea + 2) y ++ wordCells s ea x) = List.lookup a (wordCells s ea x ++ wordCells s (ea + 2) y) := by
  rw [lookup_append, lookup_append]
  unfold wordCells
  simp only [lookup_cons_if]
  have n1 := wordBase_add_two_ne s ea
  have n2 := odd_ne_even s ea (ea + 2)
  have n3 := odd_ne_even s (ea + 2) ea
  have n4 : s.wordBase (ea + 2) ||| 1#24 ≠ s.wordBase ea ||| 1#24 := fun h => n1 (odd_inj h)
  generalize s.wordBase (ea + 2) = b2 at *
  by_cases c1 : a = s.wordBase ea
  · subst c1; simp [n1.symm, n3.symm]
  · by_cases c2 : a = s.wordBase ea ||| 1#24
    · subst c2; simp [n2, n4.symm, c1]
    · simp [c1, c2]

/-! ### Subroutine frames (R404) -/

/-- BSR and JSR push this frame. -/
theorem State.subPush_effect (s : State) (ret : Addr) :
    StoreEffect s (s.subPush ret) (fun t => OnlyLong s t 7#3 (s.sp - s.frameSize)) []
      (callCells s (s.sp - s.frameSize) ret).1 (callCells s (s.sp - s.frameSize) ret).2 := by
  unfold State.subPush State.frameSize callCells
  cases hm : s.mode
  · dsimp only
    have hsp : (s.setSp (s.sp - 2)).sp = s.sp - 2 := State.er_setEr_same _ _ _
    have hb := (s.setSp (s.sp - 2)).storeWord_frame (low24 (s.sp - 2)) (ret.setWidth 16)
    rw [hsp]
    refine ⟨(s.setEr_frame _ _).trans hb.data, fun hq => ?_, fun u hu => ?_, .same hb.ccr⟩
    · exact Quiet.storeWord_stored (s := s.setSp (s.sp - 2)) hq _ _
    · exact (s.setEr_only 7#3 (s.sp - 2)).of_regs (hu.trans hb.regs)
  · dsimp only
    have hsp : (s.drawByte.2.setSp (s.sp - 4)).sp = s.sp - 4 := State.er_setEr_same _ _ _
    rw [hsp, low24_add]
    have hb1 := (s.drawByte.2.setSp (s.sp - 4)).storeWord_frame (low24 (s.sp - 4)) (s.drawByte.1 ++ ret.extractLsb' 16 8)
    have hb2 := State.storeWord_frame
      ((s.drawByte.2.setSp (s.sp - 4)).storeWord (low24 (s.sp - 4)) (s.drawByte.1 ++ ret.extractLsb' 16 8))
      (low24 (s.sp - 4) + low24 2) (ret.setWidth 16)
    refine ⟨(s.draw_frame.trans (State.setEr_frame _ _ _)).trans (hb1.trans hb2).data, fun hq a ha => ?_, fun u hu => ?_,
      .same (hb1.trans hb2).ccr⟩
    · have hq' : Quiet (s.drawByte.2.setSp (s.sp - 4)) := hq
      have h := ((hq'.storeWord_stored (low24 (s.sp - 4)) (s.drawByte.1 ++ ret.extractLsb' 16 8)).trans
        ((hq'.storeWord _ _).storeWord_stored (low24 (s.sp - 4) + 2) (ret.setWidth 16)) hb1.memMap) a (by simp)
      refine h.trans ?_
      have ha' : a ≠ s.wordBase (low24 (s.sp - 4)) := by simpa using ha
      rw [wordCells_congr hb1.mode, lookup_words, lookup_append]
      show (if s.accessKind a = .memory then
        ((List.lookup a (wordCells s (low24 (s.sp - 4)) _)).or
          (List.lookup a (wordCells s (low24 (s.sp - 4) + 2) _))).getD (s.peek a) else s.peek a) = _
      rw [lookup_cons_if]
      unfold wordCells
      simp only [lookup_cons_if, if_neg ha', extract_low]
      by_cases h1 : a = s.wordBase (low24 (s.sp - 4)) ||| 1#24
      · simp only [if_pos h1, Option.some_or]
      · simp only [if_neg h1, List.lookup_nil, Option.none_or]
    · exact ((s.drawByte.2.setEr_only 7#3 (s.sp - 4)).of_regs (hu.trans (hb1.trans hb2).regs)).from_regs rfl

/-- RTS takes this address (R404, R413). -/
theorem State.subPop_spec (s : State) :
    EntryRead s (low24 s.sp) s.subPop.1 ∧ DataFrame s s.subPop.2 ∧ (Quiet s → s.subPop.2.mem = s.mem) ∧
      s.subPop.2.ccr = s.ccr ∧ OnlyLong s s.subPop.2 7#3 (s.sp + s.frameSize) := by
  unfold EntryRead State.subPop State.frameSize
  cases hm : s.mode <;> dsimp only
  · have hb := s.loadWord_frame (low24 s.sp)
    exact ⟨fun hq hr => by rw [hq.loadWord_value hr], hb.data.trans (State.setEr_frame _ _ _), fun hq => hq.loadWord_mem _,
      hb.ccr, ((s.loadWord (low24 s.sp)).2.setEr_only 7#3 _).from_regs hb.regs.symm⟩
  · have hb := s.loadLong_frame (low24 s.sp)
    exact ⟨fun hq h1 h2 => by rw [hq.loadLong_value h1 h2], hb.data.trans (State.setEr_frame _ _ _),
      fun hq => hq.loadLong_mem _, hb.ccr, ((s.loadLong (low24 s.sp)).2.setEr_only 7#3 _).from_regs hb.regs.symm⟩

/-! ### Branch addresses in memory (R73, R151, R484) -/

theorem State.branchAddress_frame (s : State) (p : Addr) : BusFrame s (s.branchAddress p).2 := by
  unfold State.branchAddress
  split
  · exact s.loadWord_frame p
  · exact s.loadLong_frame p

theorem Quiet.branchAddress_mem {s : State} (hq : Quiet s) (p : Addr) : (s.branchAddress p).2.mem = s.mem := by
  unfold State.branchAddress
  split
  · exact hq.loadWord_mem p
  · exact hq.loadLong_mem p

theorem Quiet.branchAddress {s : State} (hq : Quiet s) (p : Addr) : Quiet (s.branchAddress p).2 := by
  unfold State.branchAddress
  split
  · exact hq.loadWord p
  · exact hq.loadLong p

/-- The branch address read is the one the table entry holds. -/
theorem State.branchAddress_read (s : State) (p : Addr) : EntryRead s p (s.branchAddress p).1 := by
  unfold EntryRead State.branchAddress
  cases hm : s.mode <;> dsimp only
  · exact fun hq hr => by rw [hq.loadWord_value hr]
  · exact fun hq h1 h2 => by rw [hq.loadLong_value h1 h2]

/-! ### Exception frames (R487) -/

theorem State.frameByte_frame (s : State) (ret : Addr) : BusFrame s (s.frameByte ret).2 := by
  unfold State.frameByte
  split
  · exact s.drawByte_frame
  · exact .refl s

theorem State.frameByte_mem (s : State) (ret : Addr) : (s.frameByte ret).2.mem = s.mem := by
  unfold State.frameByte
  split <;> rfl

theorem State.frameByte_quiet {s : State} (hq : Quiet s) (ret : Addr) : Quiet (s.frameByte ret).2 := by
  unfold State.frameByte
  split <;> exact hq

/-- Taking an exception pushes this frame. -/
theorem State.excPush_effect (s : State) (ret : Addr) :
    StoreEffect s (s.excPush ret s.ccr) (fun t => OnlyLong s t 7#3 (s.sp - 4)) []
      (exceptionCells s (s.sp - 4) ret).1 (exceptionCells s (s.sp - 4) ret).2 := by
  have hf := s.frameByte_frame ret
  let s1 := (s.frameByte ret).2.setSp (s.sp - 2)
  have sp1 : s1.sp = s.sp - 2 := State.er_setEr_same _ _ _
  let s2 := s1.storeWord (low24 (s.sp - 2)) (ret.setWidth 16)
  have b2 : BusFrame s1 s2 := s1.storeWord_frame _ _
  have sp2 : s2.sp = s.sp - 2 := (State.sp_eq_of_regs b2.regs).trans sp1
  let s3 := s2.setSp (s.sp - 4)
  have sp3 : s3.sp = s.sp - 4 := State.er_setEr_same _ _ _
  let s4 := s3.storeWord (low24 (s.sp - 4)) (s.ccr ++ (s.frameByte ret).1)
  have b4 : BusFrame s3 s4 := s3.storeWord_frame _ _
  have e24 : s.sp - 2 - 2 = s.sp - 4 := by
    have : s.sp - 2 - 2 = s.sp - (2 + 2) := by abel
    rw [this]; rfl
  have hs : s.excPush ret s.ccr = s4 := by
    unfold State.excPush
    dsimp only
    show State.storeWord (State.setSp (State.storeWord s1 (low24 s1.sp) _) ((State.storeWord s1 (low24 s1.sp) _).sp - 2)) _ _ = _
    rw [sp1]
    show State.storeWord (State.setSp s2 (s2.sp - 2)) (low24 (State.setSp s2 (s2.sp - 2)).sp) _ = _
    rw [sp2, e24]
    show State.storeWord s3 (low24 s3.sp) _ = _
    rw [sp3]
  rw [hs]
  have hframe : DataFrame s s4 :=
    ((hf.data.trans (State.setEr_frame _ _ _)).trans b2.data).trans ((State.setEr_frame _ _ _).trans b4.data)
  have hmode : s1.mode = s.mode := hf.mode
  have hmode3 : s3.mode = s.mode := b2.mode.trans hmode
  refine ⟨hframe, fun hq a ha => ?_, fun u hu => ?_, .same ?_⟩
  · have q1 : Quiet s1 := s.frameByte_quiet hq ret
    have q3 : Quiet s3 := q1.storeWord _ _
    have st := ((q1.storeWord_stored (low24 (s.sp - 2)) (ret.setWidth 16)).of_mem (u := s3) rfl).trans
      (q3.storeWord_stored (low24 (s.sp - 4)) (s.ccr ++ (s.frameByte ret).1)) b2.memMap
    have h := (st.of_peek (s' := s) (s.frameByte_mem ret).symm hf.memMap.symm) a (by simp)
    refine h.trans ?_
    rw [wordCells_congr hmode3, wordCells_congr hmode]
    have ea : low24 (s.sp - 2) = low24 (s.sp - 4) + 2 := by
      rw [show (2 : Addr) = low24 2 from rfl, ← low24_add]
      congr 1
      rw [← e24]; abel
    rw [ea, lookup_append]
    unfold exceptionCells State.frameByte
    unfold exceptionCells at ha
    cases hm : s.mode <;> simp only [hm] at ha ⊢
    · rw [lookup_cons_if]
      unfold wordCells
      simp only [lookup_cons_if]
      have ha' : a ≠ s.wordBase (low24 (s.sp - 4)) ||| 1#24 := by simpa using ha
      simp only [if_neg ha', extract_high]
      by_cases h1 : a = s.wordBase (low24 (s.sp - 4))
      · simp only [if_pos h1, Option.some_or]
      · simp only [if_neg h1, List.lookup_nil, Option.none_or]
    · rw [lookup_cons_if, lookup_cons_if]
      unfold wordCells
      simp only [lookup_cons_if, extract_high, extract_low]
      by_cases h1 : a = s.wordBase (low24 (s.sp - 4))
      · simp only [if_pos h1, Option.some_or]
      · by_cases h2 : a = s.wordBase (low24 (s.sp - 4)) ||| 1#24
        · simp only [if_neg h1, if_pos h2, Option.some_or]
        · simp only [if_neg h1, if_neg h2, List.lookup_nil, Option.none_or]
  · have e4 : ∀ n, u.er n = s3.er n := fun n => (State.er_eq_of_regs hu n).trans (State.er_eq_of_regs b4.regs n)
    refine ⟨(e4 _).trans sp3, fun n hn => (e4 n).trans ?_⟩
    exact (State.er_setEr_ne _ _ hn).trans ((State.er_eq_of_regs b2.regs n).trans
      ((State.er_setEr_ne _ _ hn).trans (State.er_eq_of_regs hf.regs n)))
  · exact b4.ccr.trans (b2.ccr.trans hf.ccr)

/-- RTE takes CCR and PC from this frame. -/
theorem State.excPop_spec (s : State) :
    ∃ h l, WordRead s (low24 s.sp) h ∧ WordRead s (low24 s.sp + 2) l ∧ s.excPop.1 = h.extractLsb' 8 8 ∧
      s.excPop.2.1 = (match s.mode with
        | .normal => l.setWidth 24
        | .advanced => h.extractLsb' 0 8 ++ l) ∧
      DataFrame s s.excPop.2.2 ∧ (Quiet s → s.excPop.2.2.mem = s.mem) ∧ OnlyLong s s.excPop.2.2 7#3 (s.sp + 4) := by
  have b1 := s.loadWord_frame (low24 s.sp)
  have b2 := (s.loadWord (low24 s.sp)).2.loadWord_frame (low24 (s.sp + 2))
  refine ⟨(s.loadWord (low24 s.sp)).1, ((s.loadWord (low24 s.sp)).2.loadWord (low24 (s.sp + 2))).1, s.loadWord_read _,
    fun hq hr => ?_, rfl, rfl, (b1.trans b2).data.trans (State.setEr_frame _ _ _), fun hq => ?_, ?_⟩
  · have hq1 := hq.loadWord (low24 s.sp)
    have hm := hq.loadWord_mem (low24 s.sp)
    rw [low24_add]
    change ReadableWord s (low24 s.sp + low24 2) at hr
    have hr1 : ReadableWord (s.loadWord (low24 s.sp)).2 (low24 s.sp + low24 2) := by
      unfold ReadableWord Readable at hr ⊢
      rw [State.wordBase_congr b1.mode, State.accessKind_congr b1.memMap, State.accessKind_congr b1.memMap]
      exact hr
    rw [hq1.loadWord_value hr1]
    unfold State.wordAt
    rw [State.wordBase_congr b1.mode, State.peek_eq_of_mem hm, State.peek_eq_of_mem hm]
    rfl
  · exact ((hq.loadWord _).loadWord_mem _).trans (hq.loadWord_mem _)
  · exact ((((s.loadWord (low24 s.sp)).2.loadWord (low24 (s.sp + 2))).2.setEr_only 7#3 _).from_regs
      ((b1.trans b2).regs.symm))

/-! ### Taking an exception (R488) -/

theorem State.maskInterrupts_frame (s : State) : DataFrame s s.maskInterrupts := by
  unfold State.maskInterrupts
  split
  · exact (s.setFlag_frame _ _).trans (State.setFlag_frame _ _ _)
  · exact s.setFlag_frame _ _

theorem State.maskInterrupts_mem (s : State) : s.maskInterrupts.mem = s.mem := by
  unfold State.maskInterrupts
  split <;> rfl

theorem State.maskInterrupts_regs (s : State) : s.maskInterrupts.regs = s.regs := by
  unfold State.maskInterrupts
  split <;> rfl

theorem State.maskInterrupts_busScript (s : State) : s.maskInterrupts.busScript = s.busScript := by
  unfold State.maskInterrupts
  split <;> rfl

theorem State.maskInterrupts_flags (s : State) :
    FlagsBecome s s.maskInterrupts (if s.uiIsMask then [(.i, true), (.ui, true)] else [(.i, true)]) := by
  intro f
  unfold State.maskInterrupts
  split
  · show ccrGet (ccrSet (ccrSet s.ccr .i true) .ui true) f = _
    rw [ccrGet_ccrSet, ccrGet_ccrSet, State.flag_eq]
    cases f <;> rfl
  · show ccrGet (ccrSet s.ccr .i true) f = _
    rw [ccrGet_ccrSet, State.flag_eq]
    cases f <;> rfl

theorem Quiet.excPush {s : State} (hq : Quiet s) (ret : Addr) (c : Byte) : Quiet (s.excPush ret c) := by
  unfold State.excPush
  dsimp only
  refine Quiet.storeWord ?_ _ _
  exact Quiet.storeWord (s := (s.frameByte ret).2.setSp (s.sp - 2)) (s.frameByte_quiet hq ret) _ _

theorem EntryRead.of_mem {s t : State} {p v : Addr} (h : EntryRead s p v) (hq : Quiet s) (hm : t.mem = s.mem)
    (hmode : t.mode = s.mode) (hmap : t.memMap = s.memMap) : EntryRead t p v := by
  have hw : ∀ a, t.wordAt a = s.wordAt a := fun a => by
    unfold State.wordAt
    rw [State.wordBase_congr hmode, State.peek_eq_of_mem hm, State.peek_eq_of_mem hm]
  have hr : ∀ a, ReadableWord t a → ReadableWord s a := fun a k => by
    unfold ReadableWord Readable at k ⊢
    rw [State.wordBase_congr hmode, State.accessKind_congr hmap, State.accessKind_congr hmap] at k
    exact k
  unfold EntryRead at h ⊢
  rw [hmode]
  cases hs : s.mode <;> simp only [hs] at h ⊢
  · exact fun _ h1 => by rw [hw]; exact h hq (hr _ h1)
  · intro _ h1 h2
    have : t.longAt p = s.longAt p := by unfold State.longAt; rw [hw, hw]
    rw [this]
    exact h hq (hr _ h1) (hr _ h2)

/-- The last move of an exception entry changes nothing outside the CPU. -/
theorem SameOutside.enter (u : State) (a : Addr) :
    SameOutside u { u.setPc a with proc := .programExecution, stale := [] } := by
  constructor <;> rfl

/-- Taking an exception: the frame, the masks, the vector (R488). -/
theorem State.exceptionEntry_spec (s : State) (ret vec : Addr) :
    ExceptionTaken s (s.exceptionEntry ret vec) ret vec ∧ (s.exceptionEntry ret vec).inhibitInt = s.inhibitInt ∧
      (s.exceptionEntry ret vec).nmiDue = s.nmiDue ∧ SameOutside s (s.exceptionEntry ret vec) := by
  have hp := s.excPush_effect ret
  obtain ⟨m, he⟩ : ∃ m, m = (s.excPush ret s.ccr).maskInterrupts := ⟨_, rfl⟩
  have hx : s.exceptionEntry ret vec =
      { (m.branchAddress vec).2.setPc (m.branchAddress vec).1 with proc := .programExecution, stale := [] } := by
    rw [he]
    rfl
  have hm : DataFrame s m := he ▸ hp.frame.trans (State.maskInterrupts_frame _)
  have hr : m.regs = (s.excPush ret s.ccr).regs := he ▸ State.maskInterrupts_regs _
  have hmem : m.mem = (s.excPush ret s.ccr).mem := he ▸ State.maskInterrupts_mem _
  have hfl : FlagsBecome s m (if s.uiIsMask then [(.i, true), (.ui, true)] else [(.i, true)]) := by
    have h := (s.excPush ret s.ccr).maskInterrupts_flags
    rw [hp.frame.outside.uiIsMask] at h
    intro f
    rw [he, h f, hp.flags f]
    rfl
  have hquiet : Quiet s → Quiet m := fun hq => by
    unfold Quiet
    rw [he, State.maskInterrupts_busScript]
    exact hq.excPush ret s.ccr
  rw [hx]
  clear hx he
  have hb : BusFrame m (m.branchAddress vec).2 := m.branchAddress_frame vec
  have hread := m.branchAddress_read vec
  have hbm : Quiet m → (m.branchAddress vec).2.mem = m.mem := fun h => h.branchAddress_mem vec
  generalize (m.branchAddress vec).1 = v at hread ⊢
  generalize (m.branchAddress vec).2 = u at hb hbm ⊢
  have hall : DataFrame s u := hm.trans hb.data
  refine ⟨⟨?_, ?_, ?_, ?_, rfl, rfl⟩, hall.control.inhibitInt, hall.control.nmiDue, ?_⟩
  · exact hp.regs _ (hb.regs.trans hr)
  · intro f
    show ccrGet u.ccr f = _
    rw [hb.ccr]
    exact hfl f
  · exact fun hq => (hp.mem hq).of_mem ((hbm (hquiet hq)).trans hmem)
  · refine ⟨v, fun hq => hread.of_mem (hquiet hq) (hbm (hquiet hq)) hb.mode hb.memMap, ?_⟩
    show evenAddr (u.am v) = evenAddr (s.am v)
    unfold State.am
    rw [hall.outside.mode]
  · exact hall.outside.trans (.enter u v)

end Sys2Proof.Machine
end

