-- ==== Sys2Proof/Laws/Keeps.lean ====
section
/-! SUPPORT. What every shared operation keeps, one lemma per operation: the base of the invariants of the step. -/

namespace Sys2Proof.Machine

/-- What every shared operation keeps: the parameters, the canonical form of memory, every byte that is not RAM and, in
normal mode, every byte outside its address space; the prefetch stays or becomes empty. -/
structure Kept (s t : State) : Prop where
  mode : t.mode = s.mode
  ui : t.uiIsMask = s.uiIsMask
  ec : t.hasEClock = s.hasEClock
  mm : t.memMap = s.memMap
  wf : Memory.wf s.mem → Memory.wf t.mem
  peek : ∀ a, (s.accessKind a ≠ .memory ∨ (s.mode = .normal ∧ 2 ^ 16 ≤ a.toNat)) → t.peek a = s.peek a
  stale : t.stale = s.stale ∨ t.stale = []

theorem Kept.refl (s : State) : Kept s s := ⟨rfl, rfl, rfl, rfl, id, fun _ _ => rfl, .inl rfl⟩

theorem Kept.trans {s t u : State} (h : Kept s t) (k : Kept t u) : Kept s u :=
  ⟨k.mode.trans h.mode, k.ui.trans h.ui, k.ec.trans h.ec, k.mm.trans h.mm, k.wf ∘ h.wf, fun a ha => by
    refine (k.peek a ?_).trans (h.peek a ha)
    rw [State.accessKind_congr h.mm, h.mode]; exact ha, by
    rcases k.stale with e | e
    · rw [e]; exact h.stale
    · exact .inr e⟩

theorem Kept.of {s t : State} (h : DataFrame s t) (m : t.mem = s.mem) : Kept s t :=
  ⟨h.outside.mode, h.outside.uiIsMask, h.outside.hasEClock, h.outside.memMap, fun w => m ▸ w, fun a _ =>
      State.peek_eq_of_mem m a, .inl h.control.stale⟩

/-- The same, and PC is unchanged. -/
structure KeptAtPc (s t : State) : Prop where
  k : Kept s t
  pc : t.pc = s.pc

theorem KeptAtPc.refl (s : State) : KeptAtPc s s := ⟨.refl s, rfl⟩

theorem KeptAtPc.trans {s t u : State} (h : KeptAtPc s t) (k : KeptAtPc t u) : KeptAtPc s u :=
  ⟨h.k.trans k.k, k.pc.trans h.pc⟩

theorem KeptAtPc.of {s t : State} (h : DataFrame s t) (m : t.mem = s.mem) : KeptAtPc s t :=
  ⟨.of h m, h.pc⟩

theorem KeptAtPc.bus {s t : State} (h : BusFrame s t) (w : Memory.wf s.mem → Memory.wf t.mem) (p : ∀ a, (s.accessKind
    a ≠ .memory ∨ (s.mode = .normal ∧ 2 ^ 16 ≤ a.toNat)) → t.peek a = s.peek a) : KeptAtPc s t :=
  ⟨⟨h.mode, h.uiIsMask, h.hasEClock, h.memMap, w, p, .inl h.stale⟩, h.pc⟩

theorem State.am_lt_of_normal (s : State) (a : Addr) (h : s.mode = .normal) : (s.am a).toNat < 2 ^ 16 := by
  rw [State.am_toNat]; simp only [h]; omega

theorem State.readPhys_kept (s : State) a : KeptAtPc s (s.readPhys a).2 :=
  .bus (s.readPhys_frame a) (by rw [State.readPhys_mem]; exact id) (fun b _ => State.peek_eq_of_mem (s.readPhys_mem
      a) b)

theorem State.writePhys_kept (s : State) a v (ha : s.mode = .normal → a.toNat < 2 ^ 16) : KeptAtPc s (s.writePhys a
    v) :=
  .bus (s.writePhys_frame a v) (fun w => State.writePhys_wf w a v) (fun b hb => by
    rw [State.peek_writePhys, if_neg]
    rintro ⟨rfl, hm⟩
    rcases hb with hb | ⟨h1, h2⟩
    · exact hb hm
    · have := ha h1; omega)

theorem State.masterWrites_kept (ws) (s : State) : KeptAtPc s (s.masterWrites ws) := by
  induction ws generalizing s with
  | nil => exact .refl s
  | cons w ws ih => exact (State.writePhys_kept s _ _ (State.am_lt_of_normal s _)).trans (ih _)

theorem State.busTurn_kept (s : State) : KeptAtPc s s.busTurn := by
  unfold State.busTurn
  split
  · exact .refl s
  · refine KeptAtPc.trans ?_ (State.masterWrites_kept _ _)
    exact ⟨⟨rfl, rfl, rfl, rfl, id, fun _ _ => rfl, .inl rfl⟩, rfl⟩

theorem State.loadByte_kept (s : State) a : KeptAtPc s (s.loadByte a).2 :=
  (State.busTurn_kept s).trans (State.readPhys_kept _ _)

theorem State.loadWord_kept (s : State) a : KeptAtPc s (s.loadWord a).2 :=
  (State.busTurn_kept s).trans ((State.readPhys_kept _ _).trans (State.readPhys_kept _ _))

theorem State.loadLong_kept (s : State) a : KeptAtPc s (s.loadLong a).2 := by
  rw [State.loadLong_eq]
  dsimp only
  exact (State.loadWord_kept s (s.wordBase a)).trans (State.loadWord_kept _ (s.wordBase a + 2))

theorem State.storeByte_kept (s : State) a v : KeptAtPc s (s.storeByte a v) :=
  (State.busTurn_kept s).trans (State.writePhys_kept _ _ _ (fun h => by
  have e : s.busTurn.am a = s.am a := by unfold State.am; rw [(State.busTurn_kept s).k.mode]
  rw [← e]; exact State.am_lt_of_normal _ _ h))

theorem State.wordBase_lt_of_normal (s : State) (a : Addr) (h : s.mode = .normal) : (s.wordBase a).toNat < 2 ^ 16 := by
  unfold State.wordBase; rw [evenAddr_toNat]; have := State.am_lt_of_normal s a h; omega

theorem State.storeWord_kept (s : State) a v : KeptAtPc s (s.storeWord a v) := by
  have kb := State.busTurn_kept s
  refine kb.trans ((State.writePhys_kept _ _ _ (fun h => ?_)).trans (State.writePhys_kept _ _ _ (fun h => ?_)))
  · exact State.wordBase_lt_of_normal s a (kb.k.mode.symm.trans h)
  · have hm : s.mode = .normal := by
      have := (State.writePhys_frame s.busTurn (evenAddr (s.am a)) (v.extractLsb' 8 8)).mode
      rw [this] at h; exact kb.k.mode.symm.trans h
    exact State.am_lt_of_normal s _ hm

theorem State.storeLong_kept (s : State) a v : KeptAtPc s (s.storeLong a v) :=
  (State.storeWord_kept s _ _).trans (State.storeWord_kept _ _ _)

theorem State.setEr_kept (s : State) n x : KeptAtPc s (s.setEr n x) := .of (s.setEr_frame n x) rfl

theorem State.setReg8_kept (s : State) n x : KeptAtPc s (s.setReg8 n x) :=
  .of (s.setReg8_frame n x) (by simp)

theorem State.setReg16_kept (s : State) n x : KeptAtPc s (s.setReg16 n x) :=
  .of (s.setReg16_frame n x) (by simp)

theorem State.setCcr_kept (s : State) x : KeptAtPc s (s.setCcr x) := .of (s.setCcr_frame x) rfl

theorem State.setFlag_kept (s : State) f x : KeptAtPc s (s.setFlag f x) :=
  .of (s.setFlag_frame f x) rfl

theorem State.draw_kept (s : State) : KeptAtPc s s.draw.2 := .of (s.draw_frame) rfl

theorem State.drawByte_kept (s : State) : KeptAtPc s s.drawByte.2 := .of (s.draw_frame) rfl

theorem State.freeEr_kept (s : State) n : KeptAtPc s (s.freeEr n) := .of (s.freeEr_frame n) rfl

theorem RegisterEffect.keptAtPc {s t regs fl} (h : RegisterEffect s t regs fl) : KeptAtPc s t :=
  .of h.frame h.mem

theorem KeptAtPc.ite (c : Prop) [Decidable c] {s a b : State} (h : KeptAtPc s a) (k : KeptAtPc s b) : KeptAtPc s (if
    c then a else b) := by
  split <;> assumption

theorem State.moveFlags_kept {w} (s : State) (v : BitVec w) : KeptAtPc s (s.moveFlags v) :=
  State.setCcr_kept s _

theorem State.loadInto8_kept (s : State) a r : KeptAtPc s (s.loadInto8 a r) :=
  (State.loadByte_kept s a).trans (RegisterEffect.keptAtPc (State.moveInto8_effect _ r _))

theorem State.loadInto16_kept (s : State) a r : KeptAtPc s (s.loadInto16 a r) :=
  (State.loadWord_kept s a).trans (RegisterEffect.keptAtPc (State.moveInto16_effect _ r _))

theorem State.loadInto32_kept (s : State) a r : KeptAtPc s (s.loadInto32 a r) :=
  (State.loadLong_kept s a).trans (RegisterEffect.keptAtPc (State.moveInto32_effect _ r _))

theorem State.storeFrom8_kept (s : State) a r : KeptAtPc s (s.storeFrom8 a r) :=
  (State.storeByte_kept s a r).trans (State.moveFlags_kept _ _)

theorem State.storeFrom16_kept (s : State) a r : KeptAtPc s (s.storeFrom16 a r) :=
  (State.storeWord_kept s a r).trans (State.moveFlags_kept _ _)

theorem State.storeFrom32_kept (s : State) a r : KeptAtPc s (s.storeFrom32 a r) :=
  (State.storeLong_kept s a r).trans (State.moveFlags_kept _ _)

theorem State.loadPostInc8_kept (s : State) a r : KeptAtPc s (s.loadPostInc8 a r) :=
  ((State.loadByte_kept s _).trans ((State.setEr_kept _ _ _).trans (KeptAtPc.ite _ (State.freeEr_kept _ _)
      (State.setReg8_kept _ _ _)))).trans (State.moveFlags_kept _ _)

theorem State.loadPostInc16_kept (s : State) a r : KeptAtPc s (s.loadPostInc16 a r) :=
  ((State.loadWord_kept s _).trans ((State.setEr_kept _ _ _).trans (KeptAtPc.ite _ (State.freeEr_kept _ _)
      (State.setReg16_kept _ _ _)))).trans (State.moveFlags_kept _ _)

theorem State.loadPostInc32_kept (s : State) a r : KeptAtPc s (s.loadPostInc32 a r) :=
  ((State.loadLong_kept s _).trans ((State.setEr_kept _ _ _).trans (KeptAtPc.ite _ (State.freeEr_kept _ _)
      (State.setEr_kept _ _ _)))).trans (State.moveFlags_kept _ _)

theorem State.storePreDec8_kept (s : State) a r : KeptAtPc s (s.storePreDec8 a r) :=
  (State.setEr_kept s _ _).trans (State.storeFrom8_kept _ _ _)

theorem State.storePreDec16_kept (s : State) a r : KeptAtPc s (s.storePreDec16 a r) :=
  (State.setEr_kept s _ _).trans (State.storeFrom16_kept _ _ _)

theorem State.storePreDec32_kept (s : State) a r : KeptAtPc s (s.storePreDec32 a r) :=
  (State.setEr_kept s _ _).trans (State.storeFrom32_kept _ _ _)

theorem State.divInto16_kept (s : State) a r : KeptAtPc s (s.divInto16 a r) := by
  unfold State.divInto16; split; exact State.setReg16_kept _ _ _; exact (State.draw_kept s).trans
      (State.setReg16_kept _ _ _)

theorem State.divInto32_kept (s : State) a r : KeptAtPc s (s.divInto32 a r) := by
  unfold State.divInto32; split; exact State.setEr_kept _ _ _; exact (State.freeEr_kept s _)

theorem State.decimal_kept (s : State) a t k : KeptAtPc s (s.decimal a t k) := by
  unfold State.decimal; dsimp only; split
  · exact (State.drawByte_kept s).trans ((State.setReg8_kept _ _ _).trans (State.setCcr_kept _ _))
  · exact (State.drawByte_kept s).trans ((State.drawByte_kept _).trans ((State.setReg8_kept _ _ _).trans
      (State.setCcr_kept _ _)))

theorem State.modifyMem_kept (s : State) a f : KeptAtPc s (s.modifyMem a f) :=
  (State.loadByte_kept s _).trans (State.storeByte_kept _ _ _)

theorem State.testBitMem_kept (s : State) a n : KeptAtPc s (s.testBitMem a n) :=
  (State.loadByte_kept s _).trans (State.setFlag_kept _ _ _)

theorem State.carryBitMem_kept (s : State) a n f : KeptAtPc s (s.carryBitMem a n f) :=
  (State.loadByte_kept s _).trans (State.setFlag_kept _ _ _)

theorem State.ldcW_kept (s : State) a : KeptAtPc s (s.ldcW a) :=
  ((State.loadWord_kept s a).trans (State.setCcr_kept _ ((s.loadWord a).1.extractLsb' 8 8))).trans ⟨⟨rfl, rfl, rfl,
      rfl, fun w => w, fun _ _ => rfl, .inl rfl⟩, rfl⟩

theorem State.loadCcr_kept (s : State) a : KeptAtPc s (s.loadCcr a) :=
  (State.setCcr_kept s a).trans ⟨⟨rfl, rfl, rfl, rfl, fun w => w, fun _ _ => rfl, .inl rfl⟩, rfl⟩

theorem State.stcW_kept (s : State) a : KeptAtPc s (s.stcW a) :=
  (State.drawByte_kept s).trans (State.storeWord_kept _ _ _)

theorem State.subPush_kept (s : State) a : KeptAtPc s (s.subPush a) := by
  unfold State.subPush; split
  · exact (State.setEr_kept s _ _).trans (State.storeWord_kept _ _ _)
  · exact ((State.drawByte_kept s).trans (State.setEr_kept _ _ _)).trans ((State.storeWord_kept _ _ _).trans
      (State.storeWord_kept _ _ _))

theorem State.subPop_kept (s : State) : KeptAtPc s s.subPop.2 := by
  unfold State.subPop; split
  · exact (State.loadWord_kept s _).trans (State.setEr_kept _ _ _)
  · exact (State.loadLong_kept s _).trans (State.setEr_kept _ _ _)

theorem State.branchAddress_kept (s : State) p : KeptAtPc s (s.branchAddress p).2 := by
  unfold State.branchAddress; split
  · exact State.loadWord_kept s p
  · exact State.loadLong_kept s p

theorem State.excPush_kept (s : State) r c : KeptAtPc s (s.excPush r c) := by
  have : KeptAtPc s (s.frameByte r).2 := by unfold State.frameByte; split; exact State.drawByte_kept s; exact .refl s
  exact this.trans ((State.setEr_kept _ _ _).trans ((State.storeWord_kept _ _ _).trans ((State.setEr_kept _ _
      _).trans (State.storeWord_kept _ _ _))))

theorem State.excPop_kept (s : State) : KeptAtPc s s.excPop.2.2 :=
  (State.loadWord_kept s _).trans ((State.loadWord_kept _ _).trans (State.setEr_kept _ _ _))

theorem State.eepmovByte_kept (s : State) : KeptAtPc s s.eepmovByte :=
  (State.loadByte_kept s _).trans ((State.storeByte_kept _ _ _).trans ((State.setEr_kept _ _ _).trans
      (State.setEr_kept _ _ _)))

theorem State.eepmovLoopB_kept (n) (s : State) : KeptAtPc s (s.eepmovLoopB n) := by
  induction n generalizing s with
  | zero => exact .refl s
  | succ n ih => exact (State.eepmovByte_kept s).trans ((State.setReg8_kept _ _ _).trans (ih _))

theorem State.eepmovLoopW_kept (n) (s : State) k : KeptAtPc s (s.eepmovLoopW k n) := by
  induction n generalizing s k with
  | zero => exact .refl s
  | succ n ih =>
    unfold State.eepmovLoopW
    refine (State.eepmovByte_kept s).trans ((State.setReg16_kept _ (.r 4#3) (s.eepmovByte.reg16 (.r 4#3) - 1)).trans ?_)
    dsimp only
    split
    · exact ⟨⟨rfl, rfl, rfl, rfl, id, fun _ _ => rfl, .inl rfl⟩, rfl⟩
    · exact ih _ _

theorem State.eepmovB_kept (s : State) : KeptAtPc s s.eepmovB :=
  ((State.loadByte_kept s _).trans (State.loadByte_kept _ _)).trans (State.eepmovLoopB_kept _ _)

theorem State.eepmovW_kept (s : State) : KeptAtPc s s.eepmovW :=
  ((State.loadByte_kept s _).trans (State.loadByte_kept _ _)).trans (State.eepmovLoopW_kept _ _ _)

end Sys2Proof.Machine
end

