-- ==== Sys2Proof/Laws/PerInstr.lean ====
section
/-! SUPPORT. Facts about every instruction as syntax, one lemma per constructor of `Instr`. -/

namespace Sys2Proof

/-- An instruction is one to five words long, and `Instr.length` counts its bytes (R101). -/
def Laws.Extent.Statement (i : Instr) : Prop :=
  1 ≤ (encode i).length ∧ (encode i).length ≤ 5 ∧ i.length = 2 * (encode i).length

/-- How each lemma below is closed: the three facts are computed. -/
theorem Laws.extent_of_ble {i : Instr} (h₁ : Nat.ble 1 (encode i).length = true)
    (h₂ : Nat.ble (encode i).length 5 = true) : Laws.Extent.Statement i :=
  ⟨Nat.le_of_ble_eq_true h₁, Nat.le_of_ble_eq_true h₂, by simp [Instr.length, encode]⟩

theorem Laws.Extent.movBImm (imm8 : BitVec 8) (rd : Reg8) : Laws.Extent.Statement (.movBImm imm8 rd) := Laws.extent_of_ble rfl rfl
theorem Laws.Extent.movBReg (rs : Reg8) (rd : Reg8) : Laws.Extent.Statement (.movBReg rs rd) := Laws.extent_of_ble rfl rfl
theorem Laws.Extent.movBLoadInd (ers : ERn) (rd : Reg8) : Laws.Extent.Statement (.movBLoadInd ers rd) := Laws.extent_of_ble rfl rfl
theorem Laws.Extent.movBLoadDisp16 (disp16 : BitVec 16) (ers : ERn) (rd : Reg8) : Laws.Extent.Statement (.movBLoadDisp16 disp16 ers rd) := Laws.extent_of_ble rfl rfl
theorem Laws.Extent.movBLoadDisp24 (disp24 : BitVec 24) (ers : ERn) (rd : Reg8) : Laws.Extent.Statement (.movBLoadDisp24 disp24 ers rd) := Laws.extent_of_ble rfl rfl
theorem Laws.Extent.movBLoadPostInc (ers : ERn) (rd : Reg8) : Laws.Extent.Statement (.movBLoadPostInc ers rd) := Laws.extent_of_ble rfl rfl
theorem Laws.Extent.movBLoadAbs8 (abs8 : BitVec 8) (rd : Reg8) : Laws.Extent.Statement (.movBLoadAbs8 abs8 rd) := Laws.extent_of_ble rfl rfl
theorem Laws.Extent.movBLoadAbs16 (abs16 : BitVec 16) (rd : Reg8) : Laws.Extent.Statement (.movBLoadAbs16 abs16 rd) := Laws.extent_of_ble rfl rfl
theorem Laws.Extent.movBLoadAbs24 (abs24 : BitVec 24) (rd : Reg8) : Laws.Extent.Statement (.movBLoadAbs24 abs24 rd) := Laws.extent_of_ble rfl rfl
theorem Laws.Extent.movBStoreInd (rs : Reg8) (erd : ERn) : Laws.Extent.Statement (.movBStoreInd rs erd) := Laws.extent_of_ble rfl rfl
theorem Laws.Extent.movBStorePreDec (rs : Reg8) (erd : ERn) : Laws.Extent.Statement (.movBStorePreDec rs erd) := Laws.extent_of_ble rfl rfl
theorem Laws.Extent.movBStoreDisp16 (rs : Reg8) (disp16 : BitVec 16) (erd : ERn) : Laws.Extent.Statement (.movBStoreDisp16 rs disp16 erd) := Laws.extent_of_ble rfl rfl
theorem Laws.Extent.movBStoreDisp24 (rs : Reg8) (disp24 : BitVec 24) (erd : ERn) : Laws.Extent.Statement (.movBStoreDisp24 rs disp24 erd) := Laws.extent_of_ble rfl rfl
theorem Laws.Extent.movBStoreAbs8 (rs : Reg8) (abs8 : BitVec 8) : Laws.Extent.Statement (.movBStoreAbs8 rs abs8) := Laws.extent_of_ble rfl rfl
theorem Laws.Extent.movBStoreAbs16 (rs : Reg8) (abs16 : BitVec 16) : Laws.Extent.Statement (.movBStoreAbs16 rs abs16) := Laws.extent_of_ble rfl rfl
theorem Laws.Extent.movBStoreAbs24 (rs : Reg8) (abs24 : BitVec 24) : Laws.Extent.Statement (.movBStoreAbs24 rs abs24) := Laws.extent_of_ble rfl rfl
theorem Laws.Extent.movWImm (imm16 : BitVec 16) (rd : Reg16) : Laws.Extent.Statement (.movWImm imm16 rd) := Laws.extent_of_ble rfl rfl
theorem Laws.Extent.movWReg (rs : Reg16) (rd : Reg16) : Laws.Extent.Statement (.movWReg rs rd) := Laws.extent_of_ble rfl rfl
theorem Laws.Extent.movWLoadInd (ers : ERn) (rd : Reg16) : Laws.Extent.Statement (.movWLoadInd ers rd) := Laws.extent_of_ble rfl rfl
theorem Laws.Extent.movWLoadDisp16 (disp16 : BitVec 16) (ers : ERn) (rd : Reg16) : Laws.Extent.Statement (.movWLoadDisp16 disp16 ers rd) := Laws.extent_of_ble rfl rfl
theorem Laws.Extent.movWLoadDisp24 (disp24 : BitVec 24) (ers : ERn) (rd : Reg16) : Laws.Extent.Statement (.movWLoadDisp24 disp24 ers rd) := Laws.extent_of_ble rfl rfl
theorem Laws.Extent.movWLoadPostInc (ers : ERn) (rd : Reg16) : Laws.Extent.Statement (.movWLoadPostInc ers rd) := Laws.extent_of_ble rfl rfl
theorem Laws.Extent.movWLoadAbs16 (abs16 : BitVec 16) (rd : Reg16) : Laws.Extent.Statement (.movWLoadAbs16 abs16 rd) := Laws.extent_of_ble rfl rfl
theorem Laws.Extent.movWLoadAbs24 (abs24 : BitVec 24) (rd : Reg16) : Laws.Extent.Statement (.movWLoadAbs24 abs24 rd) := Laws.extent_of_ble rfl rfl
theorem Laws.Extent.movWStoreInd (rs : Reg16) (erd : ERn) : Laws.Extent.Statement (.movWStoreInd rs erd) := Laws.extent_of_ble rfl rfl
theorem Laws.Extent.movWStorePreDec (rs : Reg16) (erd : ERn) : Laws.Extent.Statement (.movWStorePreDec rs erd) := Laws.extent_of_ble rfl rfl
theorem Laws.Extent.movWStoreDisp16 (rs : Reg16) (disp16 : BitVec 16) (erd : ERn) : Laws.Extent.Statement (.movWStoreDisp16 rs disp16 erd) := Laws.extent_of_ble rfl rfl
theorem Laws.Extent.movWStoreDisp24 (rs : Reg16) (disp24 : BitVec 24) (erd : ERn) : Laws.Extent.Statement (.movWStoreDisp24 rs disp24 erd) := Laws.extent_of_ble rfl rfl
theorem Laws.Extent.movWStoreAbs16 (rs : Reg16) (abs16 : BitVec 16) : Laws.Extent.Statement (.movWStoreAbs16 rs abs16) := Laws.extent_of_ble rfl rfl
theorem Laws.Extent.movWStoreAbs24 (rs : Reg16) (abs24 : BitVec 24) : Laws.Extent.Statement (.movWStoreAbs24 rs abs24) := Laws.extent_of_ble rfl rfl
theorem Laws.Extent.movLImm (imm32 : BitVec 32) (erd : ERn) : Laws.Extent.Statement (.movLImm imm32 erd) := Laws.extent_of_ble rfl rfl
theorem Laws.Extent.movLReg (ers : ERn) (erd : ERn) : Laws.Extent.Statement (.movLReg ers erd) := Laws.extent_of_ble rfl rfl
theorem Laws.Extent.movLLoadInd (ers : ERn) (erd : ERn) : Laws.Extent.Statement (.movLLoadInd ers erd) := Laws.extent_of_ble rfl rfl
theorem Laws.Extent.movLLoadDisp16 (disp16 : BitVec 16) (ers : ERn) (erd : ERn) : Laws.Extent.Statement (.movLLoadDisp16 disp16 ers erd) := Laws.extent_of_ble rfl rfl
theorem Laws.Extent.movLLoadDisp24 (disp24 : BitVec 24) (ers : ERn) (erd : ERn) : Laws.Extent.Statement (.movLLoadDisp24 disp24 ers erd) := Laws.extent_of_ble rfl rfl
theorem Laws.Extent.movLLoadPostInc (ers : ERn) (erd : ERn) : Laws.Extent.Statement (.movLLoadPostInc ers erd) := Laws.extent_of_ble rfl rfl
theorem Laws.Extent.movLLoadAbs16 (abs16 : BitVec 16) (erd : ERn) : Laws.Extent.Statement (.movLLoadAbs16 abs16 erd) := Laws.extent_of_ble rfl rfl
theorem Laws.Extent.movLLoadAbs24 (abs24 : BitVec 24) (erd : ERn) : Laws.Extent.Statement (.movLLoadAbs24 abs24 erd) := Laws.extent_of_ble rfl rfl
theorem Laws.Extent.movLStorePreDec (ers : ERn) (erd : ERn) : Laws.Extent.Statement (.movLStorePreDec ers erd) := Laws.extent_of_ble rfl rfl
theorem Laws.Extent.movLStoreInd (ers : ERn) (erd : ERn) : Laws.Extent.Statement (.movLStoreInd ers erd) := Laws.extent_of_ble rfl rfl
theorem Laws.Extent.movLStoreDisp16 (ers : ERn) (disp16 : BitVec 16) (erd : ERn) : Laws.Extent.Statement (.movLStoreDisp16 ers disp16 erd) := Laws.extent_of_ble rfl rfl
theorem Laws.Extent.movLStoreDisp24 (ers : ERn) (disp24 : BitVec 24) (erd : ERn) : Laws.Extent.Statement (.movLStoreDisp24 ers disp24 erd) := Laws.extent_of_ble rfl rfl
theorem Laws.Extent.movLStoreAbs16 (ers : ERn) (abs16 : BitVec 16) : Laws.Extent.Statement (.movLStoreAbs16 ers abs16) := Laws.extent_of_ble rfl rfl
theorem Laws.Extent.movLStoreAbs24 (ers : ERn) (abs24 : BitVec 24) : Laws.Extent.Statement (.movLStoreAbs24 ers abs24) := Laws.extent_of_ble rfl rfl
theorem Laws.Extent.pushW (rn : Reg16) : Laws.Extent.Statement (.pushW rn) := Laws.extent_of_ble rfl rfl
theorem Laws.Extent.pushL (ern : ERn) : Laws.Extent.Statement (.pushL ern) := Laws.extent_of_ble rfl rfl
theorem Laws.Extent.popW (rn : Reg16) : Laws.Extent.Statement (.popW rn) := Laws.extent_of_ble rfl rfl
theorem Laws.Extent.popL (ern : ERn) : Laws.Extent.Statement (.popL ern) := Laws.extent_of_ble rfl rfl
theorem Laws.Extent.movfpe (abs16 : BitVec 16) (rd : Reg8) : Laws.Extent.Statement (.movfpe abs16 rd) := Laws.extent_of_ble rfl rfl
theorem Laws.Extent.movtpe (rs : Reg8) (abs16 : BitVec 16) : Laws.Extent.Statement (.movtpe rs abs16) := Laws.extent_of_ble rfl rfl
theorem Laws.Extent.addBImm (imm8 : BitVec 8) (rd : Reg8) : Laws.Extent.Statement (.addBImm imm8 rd) := Laws.extent_of_ble rfl rfl
theorem Laws.Extent.addBReg (rs : Reg8) (rd : Reg8) : Laws.Extent.Statement (.addBReg rs rd) := Laws.extent_of_ble rfl rfl
theorem Laws.Extent.addWImm (imm16 : BitVec 16) (rd : Reg16) : Laws.Extent.Statement (.addWImm imm16 rd) := Laws.extent_of_ble rfl rfl
theorem Laws.Extent.addWReg (rs : Reg16) (rd : Reg16) : Laws.Extent.Statement (.addWReg rs rd) := Laws.extent_of_ble rfl rfl
theorem Laws.Extent.addLImm (imm32 : BitVec 32) (erd : ERn) : Laws.Extent.Statement (.addLImm imm32 erd) := Laws.extent_of_ble rfl rfl
theorem Laws.Extent.addLReg (ers : ERn) (erd : ERn) : Laws.Extent.Statement (.addLReg ers erd) := Laws.extent_of_ble rfl rfl
theorem Laws.Extent.adds1 (erd : ERn) : Laws.Extent.Statement (.adds1 erd) := Laws.extent_of_ble rfl rfl
theorem Laws.Extent.adds2 (erd : ERn) : Laws.Extent.Statement (.adds2 erd) := Laws.extent_of_ble rfl rfl
theorem Laws.Extent.adds4 (erd : ERn) : Laws.Extent.Statement (.adds4 erd) := Laws.extent_of_ble rfl rfl
theorem Laws.Extent.addxImm (imm8 : BitVec 8) (rd : Reg8) : Laws.Extent.Statement (.addxImm imm8 rd) := Laws.extent_of_ble rfl rfl
theorem Laws.Extent.addxReg (rs : Reg8) (rd : Reg8) : Laws.Extent.Statement (.addxReg rs rd) := Laws.extent_of_ble rfl rfl
theorem Laws.Extent.cmpBImm (imm8 : BitVec 8) (rd : Reg8) : Laws.Extent.Statement (.cmpBImm imm8 rd) := Laws.extent_of_ble rfl rfl
theorem Laws.Extent.cmpBReg (rs : Reg8) (rd : Reg8) : Laws.Extent.Statement (.cmpBReg rs rd) := Laws.extent_of_ble rfl rfl
theorem Laws.Extent.cmpWImm (imm16 : BitVec 16) (rd : Reg16) : Laws.Extent.Statement (.cmpWImm imm16 rd) := Laws.extent_of_ble rfl rfl
theorem Laws.Extent.cmpWReg (rs : Reg16) (rd : Reg16) : Laws.Extent.Statement (.cmpWReg rs rd) := Laws.extent_of_ble rfl rfl
theorem Laws.Extent.cmpLImm (imm32 : BitVec 32) (erd : ERn) : Laws.Extent.Statement (.cmpLImm imm32 erd) := Laws.extent_of_ble rfl rfl
theorem Laws.Extent.cmpLReg (ers : ERn) (erd : ERn) : Laws.Extent.Statement (.cmpLReg ers erd) := Laws.extent_of_ble rfl rfl
theorem Laws.Extent.daa (rd : Reg8) : Laws.Extent.Statement (.daa rd) := Laws.extent_of_ble rfl rfl
theorem Laws.Extent.das (rd : Reg8) : Laws.Extent.Statement (.das rd) := Laws.extent_of_ble rfl rfl
theorem Laws.Extent.decB (rd : Reg8) : Laws.Extent.Statement (.decB rd) := Laws.extent_of_ble rfl rfl
theorem Laws.Extent.decW1 (rd : Reg16) : Laws.Extent.Statement (.decW1 rd) := Laws.extent_of_ble rfl rfl
theorem Laws.Extent.decW2 (rd : Reg16) : Laws.Extent.Statement (.decW2 rd) := Laws.extent_of_ble rfl rfl
theorem Laws.Extent.decL1 (erd : ERn) : Laws.Extent.Statement (.decL1 erd) := Laws.extent_of_ble rfl rfl
theorem Laws.Extent.decL2 (erd : ERn) : Laws.Extent.Statement (.decL2 erd) := Laws.extent_of_ble rfl rfl
theorem Laws.Extent.divxsBReg (rs : Reg8) (rd : Reg16) : Laws.Extent.Statement (.divxsBReg rs rd) := Laws.extent_of_ble rfl rfl
theorem Laws.Extent.divxsWReg (rs : Reg16) (erd : ERn) : Laws.Extent.Statement (.divxsWReg rs erd) := Laws.extent_of_ble rfl rfl
theorem Laws.Extent.divxuBReg (rs : Reg8) (rd : Reg16) : Laws.Extent.Statement (.divxuBReg rs rd) := Laws.extent_of_ble rfl rfl
theorem Laws.Extent.divxuWReg (rs : Reg16) (erd : ERn) : Laws.Extent.Statement (.divxuWReg rs erd) := Laws.extent_of_ble rfl rfl
theorem Laws.Extent.extsW (rd : Reg16) : Laws.Extent.Statement (.extsW rd) := Laws.extent_of_ble rfl rfl
theorem Laws.Extent.extsL (erd : ERn) : Laws.Extent.Statement (.extsL erd) := Laws.extent_of_ble rfl rfl
theorem Laws.Extent.extuW (rd : Reg16) : Laws.Extent.Statement (.extuW rd) := Laws.extent_of_ble rfl rfl
theorem Laws.Extent.extuL (erd : ERn) : Laws.Extent.Statement (.extuL erd) := Laws.extent_of_ble rfl rfl
theorem Laws.Extent.incB (rd : Reg8) : Laws.Extent.Statement (.incB rd) := Laws.extent_of_ble rfl rfl
theorem Laws.Extent.incW1 (rd : Reg16) : Laws.Extent.Statement (.incW1 rd) := Laws.extent_of_ble rfl rfl
theorem Laws.Extent.incW2 (rd : Reg16) : Laws.Extent.Statement (.incW2 rd) := Laws.extent_of_ble rfl rfl
theorem Laws.Extent.incL1 (erd : ERn) : Laws.Extent.Statement (.incL1 erd) := Laws.extent_of_ble rfl rfl
theorem Laws.Extent.incL2 (erd : ERn) : Laws.Extent.Statement (.incL2 erd) := Laws.extent_of_ble rfl rfl
theorem Laws.Extent.mulxsBReg (rs : Reg8) (rd : Reg16) : Laws.Extent.Statement (.mulxsBReg rs rd) := Laws.extent_of_ble rfl rfl
theorem Laws.Extent.mulxsWReg (rs : Reg16) (erd : ERn) : Laws.Extent.Statement (.mulxsWReg rs erd) := Laws.extent_of_ble rfl rfl
theorem Laws.Extent.mulxuBReg (rs : Reg8) (rd : Reg16) : Laws.Extent.Statement (.mulxuBReg rs rd) := Laws.extent_of_ble rfl rfl
theorem Laws.Extent.mulxuWReg (rs : Reg16) (erd : ERn) : Laws.Extent.Statement (.mulxuWReg rs erd) := Laws.extent_of_ble rfl rfl
theorem Laws.Extent.negB (rd : Reg8) : Laws.Extent.Statement (.negB rd) := Laws.extent_of_ble rfl rfl
theorem Laws.Extent.negW (rd : Reg16) : Laws.Extent.Statement (.negW rd) := Laws.extent_of_ble rfl rfl
theorem Laws.Extent.negL (erd : ERn) : Laws.Extent.Statement (.negL erd) := Laws.extent_of_ble rfl rfl
theorem Laws.Extent.subBReg (rs : Reg8) (rd : Reg8) : Laws.Extent.Statement (.subBReg rs rd) := Laws.extent_of_ble rfl rfl
theorem Laws.Extent.subWImm (imm16 : BitVec 16) (rd : Reg16) : Laws.Extent.Statement (.subWImm imm16 rd) := Laws.extent_of_ble rfl rfl
theorem Laws.Extent.subWReg (rs : Reg16) (rd : Reg16) : Laws.Extent.Statement (.subWReg rs rd) := Laws.extent_of_ble rfl rfl
theorem Laws.Extent.subLImm (imm32 : BitVec 32) (erd : ERn) : Laws.Extent.Statement (.subLImm imm32 erd) := Laws.extent_of_ble rfl rfl
theorem Laws.Extent.subLReg (ers : ERn) (erd : ERn) : Laws.Extent.Statement (.subLReg ers erd) := Laws.extent_of_ble rfl rfl
theorem Laws.Extent.subs1 (erd : ERn) : Laws.Extent.Statement (.subs1 erd) := Laws.extent_of_ble rfl rfl
theorem Laws.Extent.subs2 (erd : ERn) : Laws.Extent.Statement (.subs2 erd) := Laws.extent_of_ble rfl rfl
theorem Laws.Extent.subs4 (erd : ERn) : Laws.Extent.Statement (.subs4 erd) := Laws.extent_of_ble rfl rfl
theorem Laws.Extent.subxImm (imm8 : BitVec 8) (rd : Reg8) : Laws.Extent.Statement (.subxImm imm8 rd) := Laws.extent_of_ble rfl rfl
theorem Laws.Extent.subxReg (rs : Reg8) (rd : Reg8) : Laws.Extent.Statement (.subxReg rs rd) := Laws.extent_of_ble rfl rfl
theorem Laws.Extent.andBImm (imm8 : BitVec 8) (rd : Reg8) : Laws.Extent.Statement (.andBImm imm8 rd) := Laws.extent_of_ble rfl rfl
theorem Laws.Extent.andBReg (rs : Reg8) (rd : Reg8) : Laws.Extent.Statement (.andBReg rs rd) := Laws.extent_of_ble rfl rfl
theorem Laws.Extent.andWImm (imm16 : BitVec 16) (rd : Reg16) : Laws.Extent.Statement (.andWImm imm16 rd) := Laws.extent_of_ble rfl rfl
theorem Laws.Extent.andWReg (rs : Reg16) (rd : Reg16) : Laws.Extent.Statement (.andWReg rs rd) := Laws.extent_of_ble rfl rfl
theorem Laws.Extent.andLImm (imm32 : BitVec 32) (erd : ERn) : Laws.Extent.Statement (.andLImm imm32 erd) := Laws.extent_of_ble rfl rfl
theorem Laws.Extent.andLReg (ers : ERn) (erd : ERn) : Laws.Extent.Statement (.andLReg ers erd) := Laws.extent_of_ble rfl rfl
theorem Laws.Extent.orBImm (imm8 : BitVec 8) (rd : Reg8) : Laws.Extent.Statement (.orBImm imm8 rd) := Laws.extent_of_ble rfl rfl
theorem Laws.Extent.orBReg (rs : Reg8) (rd : Reg8) : Laws.Extent.Statement (.orBReg rs rd) := Laws.extent_of_ble rfl rfl
theorem Laws.Extent.orWImm (imm16 : BitVec 16) (rd : Reg16) : Laws.Extent.Statement (.orWImm imm16 rd) := Laws.extent_of_ble rfl rfl
theorem Laws.Extent.orWReg (rs : Reg16) (rd : Reg16) : Laws.Extent.Statement (.orWReg rs rd) := Laws.extent_of_ble rfl rfl
theorem Laws.Extent.orLImm (imm32 : BitVec 32) (erd : ERn) : Laws.Extent.Statement (.orLImm imm32 erd) := Laws.extent_of_ble rfl rfl
theorem Laws.Extent.orLReg (ers : ERn) (erd : ERn) : Laws.Extent.Statement (.orLReg ers erd) := Laws.extent_of_ble rfl rfl
theorem Laws.Extent.xorBImm (imm8 : BitVec 8) (rd : Reg8) : Laws.Extent.Statement (.xorBImm imm8 rd) := Laws.extent_of_ble rfl rfl
theorem Laws.Extent.xorBReg (rs : Reg8) (rd : Reg8) : Laws.Extent.Statement (.xorBReg rs rd) := Laws.extent_of_ble rfl rfl
theorem Laws.Extent.xorWImm (imm16 : BitVec 16) (rd : Reg16) : Laws.Extent.Statement (.xorWImm imm16 rd) := Laws.extent_of_ble rfl rfl
theorem Laws.Extent.xorWReg (rs : Reg16) (rd : Reg16) : Laws.Extent.Statement (.xorWReg rs rd) := Laws.extent_of_ble rfl rfl
theorem Laws.Extent.xorLImm (imm32 : BitVec 32) (erd : ERn) : Laws.Extent.Statement (.xorLImm imm32 erd) := Laws.extent_of_ble rfl rfl
theorem Laws.Extent.xorLReg (ers : ERn) (erd : ERn) : Laws.Extent.Statement (.xorLReg ers erd) := Laws.extent_of_ble rfl rfl
theorem Laws.Extent.notB (rd : Reg8) : Laws.Extent.Statement (.notB rd) := Laws.extent_of_ble rfl rfl
theorem Laws.Extent.notW (rd : Reg16) : Laws.Extent.Statement (.notW rd) := Laws.extent_of_ble rfl rfl
theorem Laws.Extent.notL (erd : ERn) : Laws.Extent.Statement (.notL erd) := Laws.extent_of_ble rfl rfl
theorem Laws.Extent.shalB (rd : Reg8) : Laws.Extent.Statement (.shalB rd) := Laws.extent_of_ble rfl rfl
theorem Laws.Extent.shalW (rd : Reg16) : Laws.Extent.Statement (.shalW rd) := Laws.extent_of_ble rfl rfl
theorem Laws.Extent.shalL (erd : ERn) : Laws.Extent.Statement (.shalL erd) := Laws.extent_of_ble rfl rfl
theorem Laws.Extent.sharB (rd : Reg8) : Laws.Extent.Statement (.sharB rd) := Laws.extent_of_ble rfl rfl
theorem Laws.Extent.sharW (rd : Reg16) : Laws.Extent.Statement (.sharW rd) := Laws.extent_of_ble rfl rfl
theorem Laws.Extent.sharL (erd : ERn) : Laws.Extent.Statement (.sharL erd) := Laws.extent_of_ble rfl rfl
theorem Laws.Extent.shllB (rd : Reg8) : Laws.Extent.Statement (.shllB rd) := Laws.extent_of_ble rfl rfl
theorem Laws.Extent.shllW (rd : Reg16) : Laws.Extent.Statement (.shllW rd) := Laws.extent_of_ble rfl rfl
theorem Laws.Extent.shllL (erd : ERn) : Laws.Extent.Statement (.shllL erd) := Laws.extent_of_ble rfl rfl
theorem Laws.Extent.shlrB (rd : Reg8) : Laws.Extent.Statement (.shlrB rd) := Laws.extent_of_ble rfl rfl
theorem Laws.Extent.shlrW (rd : Reg16) : Laws.Extent.Statement (.shlrW rd) := Laws.extent_of_ble rfl rfl
theorem Laws.Extent.shlrL (erd : ERn) : Laws.Extent.Statement (.shlrL erd) := Laws.extent_of_ble rfl rfl
theorem Laws.Extent.rotlB (rd : Reg8) : Laws.Extent.Statement (.rotlB rd) := Laws.extent_of_ble rfl rfl
theorem Laws.Extent.rotlW (rd : Reg16) : Laws.Extent.Statement (.rotlW rd) := Laws.extent_of_ble rfl rfl
theorem Laws.Extent.rotlL (erd : ERn) : Laws.Extent.Statement (.rotlL erd) := Laws.extent_of_ble rfl rfl
theorem Laws.Extent.rotrB (rd : Reg8) : Laws.Extent.Statement (.rotrB rd) := Laws.extent_of_ble rfl rfl
theorem Laws.Extent.rotrW (rd : Reg16) : Laws.Extent.Statement (.rotrW rd) := Laws.extent_of_ble rfl rfl
theorem Laws.Extent.rotrL (erd : ERn) : Laws.Extent.Statement (.rotrL erd) := Laws.extent_of_ble rfl rfl
theorem Laws.Extent.rotxlB (rd : Reg8) : Laws.Extent.Statement (.rotxlB rd) := Laws.extent_of_ble rfl rfl
theorem Laws.Extent.rotxlW (rd : Reg16) : Laws.Extent.Statement (.rotxlW rd) := Laws.extent_of_ble rfl rfl
theorem Laws.Extent.rotxlL (erd : ERn) : Laws.Extent.Statement (.rotxlL erd) := Laws.extent_of_ble rfl rfl
theorem Laws.Extent.rotxrB (rd : Reg8) : Laws.Extent.Statement (.rotxrB rd) := Laws.extent_of_ble rfl rfl
theorem Laws.Extent.rotxrW (rd : Reg16) : Laws.Extent.Statement (.rotxrW rd) := Laws.extent_of_ble rfl rfl
theorem Laws.Extent.rotxrL (erd : ERn) : Laws.Extent.Statement (.rotxrL erd) := Laws.extent_of_ble rfl rfl
theorem Laws.Extent.bsetImmReg (imm3 : BitVec 3) (rd : Reg8) : Laws.Extent.Statement (.bsetImmReg imm3 rd) := Laws.extent_of_ble rfl rfl
theorem Laws.Extent.bsetImmInd (imm3 : BitVec 3) (erd : ERn) : Laws.Extent.Statement (.bsetImmInd imm3 erd) := Laws.extent_of_ble rfl rfl
theorem Laws.Extent.bsetImmAbs8 (imm3 : BitVec 3) (abs8 : BitVec 8) : Laws.Extent.Statement (.bsetImmAbs8 imm3 abs8) := Laws.extent_of_ble rfl rfl
theorem Laws.Extent.bsetRegReg (rn : Reg8) (rd : Reg8) : Laws.Extent.Statement (.bsetRegReg rn rd) := Laws.extent_of_ble rfl rfl
theorem Laws.Extent.bsetRegInd (rn : Reg8) (erd : ERn) : Laws.Extent.Statement (.bsetRegInd rn erd) := Laws.extent_of_ble rfl rfl
theorem Laws.Extent.bsetRegAbs8 (rn : Reg8) (abs8 : BitVec 8) : Laws.Extent.Statement (.bsetRegAbs8 rn abs8) := Laws.extent_of_ble rfl rfl
theorem Laws.Extent.bclrImmReg (imm3 : BitVec 3) (rd : Reg8) : Laws.Extent.Statement (.bclrImmReg imm3 rd) := Laws.extent_of_ble rfl rfl
theorem Laws.Extent.bclrImmInd (imm3 : BitVec 3) (erd : ERn) : Laws.Extent.Statement (.bclrImmInd imm3 erd) := Laws.extent_of_ble rfl rfl
theorem Laws.Extent.bclrImmAbs8 (imm3 : BitVec 3) (abs8 : BitVec 8) : Laws.Extent.Statement (.bclrImmAbs8 imm3 abs8) := Laws.extent_of_ble rfl rfl
theorem Laws.Extent.bclrRegReg (rn : Reg8) (rd : Reg8) : Laws.Extent.Statement (.bclrRegReg rn rd) := Laws.extent_of_ble rfl rfl
theorem Laws.Extent.bclrRegInd (rn : Reg8) (erd : ERn) : Laws.Extent.Statement (.bclrRegInd rn erd) := Laws.extent_of_ble rfl rfl
theorem Laws.Extent.bclrRegAbs8 (rn : Reg8) (abs8 : BitVec 8) : Laws.Extent.Statement (.bclrRegAbs8 rn abs8) := Laws.extent_of_ble rfl rfl
theorem Laws.Extent.bnotImmReg (imm3 : BitVec 3) (rd : Reg8) : Laws.Extent.Statement (.bnotImmReg imm3 rd) := Laws.extent_of_ble rfl rfl
theorem Laws.Extent.bnotImmInd (imm3 : BitVec 3) (erd : ERn) : Laws.Extent.Statement (.bnotImmInd imm3 erd) := Laws.extent_of_ble rfl rfl
theorem Laws.Extent.bnotImmAbs8 (imm3 : BitVec 3) (abs8 : BitVec 8) : Laws.Extent.Statement (.bnotImmAbs8 imm3 abs8) := Laws.extent_of_ble rfl rfl
theorem Laws.Extent.bnotRegReg (rn : Reg8) (rd : Reg8) : Laws.Extent.Statement (.bnotRegReg rn rd) := Laws.extent_of_ble rfl rfl
theorem Laws.Extent.bnotRegInd (rn : Reg8) (erd : ERn) : Laws.Extent.Statement (.bnotRegInd rn erd) := Laws.extent_of_ble rfl rfl
theorem Laws.Extent.bnotRegAbs8 (rn : Reg8) (abs8 : BitVec 8) : Laws.Extent.Statement (.bnotRegAbs8 rn abs8) := Laws.extent_of_ble rfl rfl
theorem Laws.Extent.btstImmReg (imm3 : BitVec 3) (rd : Reg8) : Laws.Extent.Statement (.btstImmReg imm3 rd) := Laws.extent_of_ble rfl rfl
theorem Laws.Extent.btstImmInd (imm3 : BitVec 3) (erd : ERn) : Laws.Extent.Statement (.btstImmInd imm3 erd) := Laws.extent_of_ble rfl rfl
theorem Laws.Extent.btstImmAbs8 (imm3 : BitVec 3) (abs8 : BitVec 8) : Laws.Extent.Statement (.btstImmAbs8 imm3 abs8) := Laws.extent_of_ble rfl rfl
theorem Laws.Extent.btstRegReg (rn : Reg8) (rd : Reg8) : Laws.Extent.Statement (.btstRegReg rn rd) := Laws.extent_of_ble rfl rfl
theorem Laws.Extent.btstRegInd (rn : Reg8) (erd : ERn) : Laws.Extent.Statement (.btstRegInd rn erd) := Laws.extent_of_ble rfl rfl
theorem Laws.Extent.btstRegAbs8 (rn : Reg8) (abs8 : BitVec 8) : Laws.Extent.Statement (.btstRegAbs8 rn abs8) := Laws.extent_of_ble rfl rfl
theorem Laws.Extent.bandImmReg (imm3 : BitVec 3) (rd : Reg8) : Laws.Extent.Statement (.bandImmReg imm3 rd) := Laws.extent_of_ble rfl rfl
theorem Laws.Extent.bandImmInd (imm3 : BitVec 3) (erd : ERn) : Laws.Extent.Statement (.bandImmInd imm3 erd) := Laws.extent_of_ble rfl rfl
theorem Laws.Extent.bandImmAbs8 (imm3 : BitVec 3) (abs8 : BitVec 8) : Laws.Extent.Statement (.bandImmAbs8 imm3 abs8) := Laws.extent_of_ble rfl rfl
theorem Laws.Extent.biandImmReg (imm3 : BitVec 3) (rd : Reg8) : Laws.Extent.Statement (.biandImmReg imm3 rd) := Laws.extent_of_ble rfl rfl
theorem Laws.Extent.biandImmInd (imm3 : BitVec 3) (erd : ERn) : Laws.Extent.Statement (.biandImmInd imm3 erd) := Laws.extent_of_ble rfl rfl
theorem Laws.Extent.biandImmAbs8 (imm3 : BitVec 3) (abs8 : BitVec 8) : Laws.Extent.Statement (.biandImmAbs8 imm3 abs8) := Laws.extent_of_ble rfl rfl
theorem Laws.Extent.borImmReg (imm3 : BitVec 3) (rd : Reg8) : Laws.Extent.Statement (.borImmReg imm3 rd) := Laws.extent_of_ble rfl rfl
theorem Laws.Extent.borImmInd (imm3 : BitVec 3) (erd : ERn) : Laws.Extent.Statement (.borImmInd imm3 erd) := Laws.extent_of_ble rfl rfl
theorem Laws.Extent.borImmAbs8 (imm3 : BitVec 3) (abs8 : BitVec 8) : Laws.Extent.Statement (.borImmAbs8 imm3 abs8) := Laws.extent_of_ble rfl rfl
theorem Laws.Extent.biorImmReg (imm3 : BitVec 3) (rd : Reg8) : Laws.Extent.Statement (.biorImmReg imm3 rd) := Laws.extent_of_ble rfl rfl
theorem Laws.Extent.biorImmInd (imm3 : BitVec 3) (erd : ERn) : Laws.Extent.Statement (.biorImmInd imm3 erd) := Laws.extent_of_ble rfl rfl
theorem Laws.Extent.biorImmAbs8 (imm3 : BitVec 3) (abs8 : BitVec 8) : Laws.Extent.Statement (.biorImmAbs8 imm3 abs8) := Laws.extent_of_ble rfl rfl
theorem Laws.Extent.bxorImmReg (imm3 : BitVec 3) (rd : Reg8) : Laws.Extent.Statement (.bxorImmReg imm3 rd) := Laws.extent_of_ble rfl rfl
theorem Laws.Extent.bxorImmInd (imm3 : BitVec 3) (erd : ERn) : Laws.Extent.Statement (.bxorImmInd imm3 erd) := Laws.extent_of_ble rfl rfl
theorem Laws.Extent.bxorImmAbs8 (imm3 : BitVec 3) (abs8 : BitVec 8) : Laws.Extent.Statement (.bxorImmAbs8 imm3 abs8) := Laws.extent_of_ble rfl rfl
theorem Laws.Extent.bixorImmReg (imm3 : BitVec 3) (rd : Reg8) : Laws.Extent.Statement (.bixorImmReg imm3 rd) := Laws.extent_of_ble rfl rfl
theorem Laws.Extent.bixorImmInd (imm3 : BitVec 3) (erd : ERn) : Laws.Extent.Statement (.bixorImmInd imm3 erd) := Laws.extent_of_ble rfl rfl
theorem Laws.Extent.bixorImmAbs8 (imm3 : BitVec 3) (abs8 : BitVec 8) : Laws.Extent.Statement (.bixorImmAbs8 imm3 abs8) := Laws.extent_of_ble rfl rfl
theorem Laws.Extent.bldImmReg (imm3 : BitVec 3) (rd : Reg8) : Laws.Extent.Statement (.bldImmReg imm3 rd) := Laws.extent_of_ble rfl rfl
theorem Laws.Extent.bldImmInd (imm3 : BitVec 3) (erd : ERn) : Laws.Extent.Statement (.bldImmInd imm3 erd) := Laws.extent_of_ble rfl rfl
theorem Laws.Extent.bldImmAbs8 (imm3 : BitVec 3) (abs8 : BitVec 8) : Laws.Extent.Statement (.bldImmAbs8 imm3 abs8) := Laws.extent_of_ble rfl rfl
theorem Laws.Extent.bildImmReg (imm3 : BitVec 3) (rd : Reg8) : Laws.Extent.Statement (.bildImmReg imm3 rd) := Laws.extent_of_ble rfl rfl
theorem Laws.Extent.bildImmInd (imm3 : BitVec 3) (erd : ERn) : Laws.Extent.Statement (.bildImmInd imm3 erd) := Laws.extent_of_ble rfl rfl
theorem Laws.Extent.bildImmAbs8 (imm3 : BitVec 3) (abs8 : BitVec 8) : Laws.Extent.Statement (.bildImmAbs8 imm3 abs8) := Laws.extent_of_ble rfl rfl
theorem Laws.Extent.bstImmReg (imm3 : BitVec 3) (rd : Reg8) : Laws.Extent.Statement (.bstImmReg imm3 rd) := Laws.extent_of_ble rfl rfl
theorem Laws.Extent.bstImmInd (imm3 : BitVec 3) (erd : ERn) : Laws.Extent.Statement (.bstImmInd imm3 erd) := Laws.extent_of_ble rfl rfl
theorem Laws.Extent.bstImmAbs8 (imm3 : BitVec 3) (abs8 : BitVec 8) : Laws.Extent.Statement (.bstImmAbs8 imm3 abs8) := Laws.extent_of_ble rfl rfl
theorem Laws.Extent.bistImmReg (imm3 : BitVec 3) (rd : Reg8) : Laws.Extent.Statement (.bistImmReg imm3 rd) := Laws.extent_of_ble rfl rfl
theorem Laws.Extent.bistImmInd (imm3 : BitVec 3) (erd : ERn) : Laws.Extent.Statement (.bistImmInd imm3 erd) := Laws.extent_of_ble rfl rfl
theorem Laws.Extent.bistImmAbs8 (imm3 : BitVec 3) (abs8 : BitVec 8) : Laws.Extent.Statement (.bistImmAbs8 imm3 abs8) := Laws.extent_of_ble rfl rfl
theorem Laws.Extent.braD8 (disp8 : BitVec 8) : Laws.Extent.Statement (.braD8 disp8) := Laws.extent_of_ble rfl rfl
theorem Laws.Extent.brnD8 (disp8 : BitVec 8) : Laws.Extent.Statement (.brnD8 disp8) := Laws.extent_of_ble rfl rfl
theorem Laws.Extent.bhiD8 (disp8 : BitVec 8) : Laws.Extent.Statement (.bhiD8 disp8) := Laws.extent_of_ble rfl rfl
theorem Laws.Extent.blsD8 (disp8 : BitVec 8) : Laws.Extent.Statement (.blsD8 disp8) := Laws.extent_of_ble rfl rfl
theorem Laws.Extent.bccD8 (disp8 : BitVec 8) : Laws.Extent.Statement (.bccD8 disp8) := Laws.extent_of_ble rfl rfl
theorem Laws.Extent.bcsD8 (disp8 : BitVec 8) : Laws.Extent.Statement (.bcsD8 disp8) := Laws.extent_of_ble rfl rfl
theorem Laws.Extent.bneD8 (disp8 : BitVec 8) : Laws.Extent.Statement (.bneD8 disp8) := Laws.extent_of_ble rfl rfl
theorem Laws.Extent.beqD8 (disp8 : BitVec 8) : Laws.Extent.Statement (.beqD8 disp8) := Laws.extent_of_ble rfl rfl
theorem Laws.Extent.bvcD8 (disp8 : BitVec 8) : Laws.Extent.Statement (.bvcD8 disp8) := Laws.extent_of_ble rfl rfl
theorem Laws.Extent.bvsD8 (disp8 : BitVec 8) : Laws.Extent.Statement (.bvsD8 disp8) := Laws.extent_of_ble rfl rfl
theorem Laws.Extent.bplD8 (disp8 : BitVec 8) : Laws.Extent.Statement (.bplD8 disp8) := Laws.extent_of_ble rfl rfl
theorem Laws.Extent.bmiD8 (disp8 : BitVec 8) : Laws.Extent.Statement (.bmiD8 disp8) := Laws.extent_of_ble rfl rfl
theorem Laws.Extent.bgeD8 (disp8 : BitVec 8) : Laws.Extent.Statement (.bgeD8 disp8) := Laws.extent_of_ble rfl rfl
theorem Laws.Extent.bltD8 (disp8 : BitVec 8) : Laws.Extent.Statement (.bltD8 disp8) := Laws.extent_of_ble rfl rfl
theorem Laws.Extent.bgtD8 (disp8 : BitVec 8) : Laws.Extent.Statement (.bgtD8 disp8) := Laws.extent_of_ble rfl rfl
theorem Laws.Extent.bleD8 (disp8 : BitVec 8) : Laws.Extent.Statement (.bleD8 disp8) := Laws.extent_of_ble rfl rfl
theorem Laws.Extent.braD16 (disp16 : BitVec 16) : Laws.Extent.Statement (.braD16 disp16) := Laws.extent_of_ble rfl rfl
theorem Laws.Extent.brnD16 (disp16 : BitVec 16) : Laws.Extent.Statement (.brnD16 disp16) := Laws.extent_of_ble rfl rfl
theorem Laws.Extent.bhiD16 (disp16 : BitVec 16) : Laws.Extent.Statement (.bhiD16 disp16) := Laws.extent_of_ble rfl rfl
theorem Laws.Extent.blsD16 (disp16 : BitVec 16) : Laws.Extent.Statement (.blsD16 disp16) := Laws.extent_of_ble rfl rfl
theorem Laws.Extent.bccD16 (disp16 : BitVec 16) : Laws.Extent.Statement (.bccD16 disp16) := Laws.extent_of_ble rfl rfl
theorem Laws.Extent.bcsD16 (disp16 : BitVec 16) : Laws.Extent.Statement (.bcsD16 disp16) := Laws.extent_of_ble rfl rfl
theorem Laws.Extent.bneD16 (disp16 : BitVec 16) : Laws.Extent.Statement (.bneD16 disp16) := Laws.extent_of_ble rfl rfl
theorem Laws.Extent.beqD16 (disp16 : BitVec 16) : Laws.Extent.Statement (.beqD16 disp16) := Laws.extent_of_ble rfl rfl
theorem Laws.Extent.bvcD16 (disp16 : BitVec 16) : Laws.Extent.Statement (.bvcD16 disp16) := Laws.extent_of_ble rfl rfl
theorem Laws.Extent.bvsD16 (disp16 : BitVec 16) : Laws.Extent.Statement (.bvsD16 disp16) := Laws.extent_of_ble rfl rfl
theorem Laws.Extent.bplD16 (disp16 : BitVec 16) : Laws.Extent.Statement (.bplD16 disp16) := Laws.extent_of_ble rfl rfl
theorem Laws.Extent.bmiD16 (disp16 : BitVec 16) : Laws.Extent.Statement (.bmiD16 disp16) := Laws.extent_of_ble rfl rfl
theorem Laws.Extent.bgeD16 (disp16 : BitVec 16) : Laws.Extent.Statement (.bgeD16 disp16) := Laws.extent_of_ble rfl rfl
theorem Laws.Extent.bltD16 (disp16 : BitVec 16) : Laws.Extent.Statement (.bltD16 disp16) := Laws.extent_of_ble rfl rfl
theorem Laws.Extent.bgtD16 (disp16 : BitVec 16) : Laws.Extent.Statement (.bgtD16 disp16) := Laws.extent_of_ble rfl rfl
theorem Laws.Extent.bleD16 (disp16 : BitVec 16) : Laws.Extent.Statement (.bleD16 disp16) := Laws.extent_of_ble rfl rfl
theorem Laws.Extent.bsrD8 (disp8 : BitVec 8) : Laws.Extent.Statement (.bsrD8 disp8) := Laws.extent_of_ble rfl rfl
theorem Laws.Extent.bsrD16 (disp16 : BitVec 16) : Laws.Extent.Statement (.bsrD16 disp16) := Laws.extent_of_ble rfl rfl
theorem Laws.Extent.jmpInd (ern : ERn) : Laws.Extent.Statement (.jmpInd ern) := Laws.extent_of_ble rfl rfl
theorem Laws.Extent.jmpAbs24 (abs24 : BitVec 24) : Laws.Extent.Statement (.jmpAbs24 abs24) := Laws.extent_of_ble rfl rfl
theorem Laws.Extent.jmpMemInd (abs8 : BitVec 8) : Laws.Extent.Statement (.jmpMemInd abs8) := Laws.extent_of_ble rfl rfl
theorem Laws.Extent.jsrInd (ern : ERn) : Laws.Extent.Statement (.jsrInd ern) := Laws.extent_of_ble rfl rfl
theorem Laws.Extent.jsrAbs24 (abs24 : BitVec 24) : Laws.Extent.Statement (.jsrAbs24 abs24) := Laws.extent_of_ble rfl rfl
theorem Laws.Extent.jsrMemInd (abs8 : BitVec 8) : Laws.Extent.Statement (.jsrMemInd abs8) := Laws.extent_of_ble rfl rfl
theorem Laws.Extent.rts : Laws.Extent.Statement .rts := Laws.extent_of_ble rfl rfl
theorem Laws.Extent.trapa (imm2 : BitVec 2) : Laws.Extent.Statement (.trapa imm2) := Laws.extent_of_ble rfl rfl
theorem Laws.Extent.rte : Laws.Extent.Statement .rte := Laws.extent_of_ble rfl rfl
theorem Laws.Extent.sleep : Laws.Extent.Statement .sleep := Laws.extent_of_ble rfl rfl
theorem Laws.Extent.ldcBImm (imm8 : BitVec 8) : Laws.Extent.Statement (.ldcBImm imm8) := Laws.extent_of_ble rfl rfl
theorem Laws.Extent.ldcBReg (rs : Reg8) : Laws.Extent.Statement (.ldcBReg rs) := Laws.extent_of_ble rfl rfl
theorem Laws.Extent.ldcWLoadInd (ers : ERn) : Laws.Extent.Statement (.ldcWLoadInd ers) := Laws.extent_of_ble rfl rfl
theorem Laws.Extent.ldcWLoadDisp16 (disp16 : BitVec 16) (ers : ERn) : Laws.Extent.Statement (.ldcWLoadDisp16 disp16 ers) := Laws.extent_of_ble rfl rfl
theorem Laws.Extent.ldcWLoadDisp24 (disp24 : BitVec 24) (ers : ERn) : Laws.Extent.Statement (.ldcWLoadDisp24 disp24 ers) := Laws.extent_of_ble rfl rfl
theorem Laws.Extent.ldcWLoadPostInc (ers : ERn) : Laws.Extent.Statement (.ldcWLoadPostInc ers) := Laws.extent_of_ble rfl rfl
theorem Laws.Extent.ldcWLoadAbs16 (abs16 : BitVec 16) : Laws.Extent.Statement (.ldcWLoadAbs16 abs16) := Laws.extent_of_ble rfl rfl
theorem Laws.Extent.ldcWLoadAbs24 (abs24 : BitVec 24) : Laws.Extent.Statement (.ldcWLoadAbs24 abs24) := Laws.extent_of_ble rfl rfl
theorem Laws.Extent.stcBReg (rd : Reg8) : Laws.Extent.Statement (.stcBReg rd) := Laws.extent_of_ble rfl rfl
theorem Laws.Extent.stcWStoreInd (erd : ERn) : Laws.Extent.Statement (.stcWStoreInd erd) := Laws.extent_of_ble rfl rfl
theorem Laws.Extent.stcWStoreDisp16 (disp16 : BitVec 16) (erd : ERn) : Laws.Extent.Statement (.stcWStoreDisp16 disp16 erd) := Laws.extent_of_ble rfl rfl
theorem Laws.Extent.stcWStoreDisp24 (disp24 : BitVec 24) (erd : ERn) : Laws.Extent.Statement (.stcWStoreDisp24 disp24 erd) := Laws.extent_of_ble rfl rfl
theorem Laws.Extent.stcWStorePreDec (erd : ERn) : Laws.Extent.Statement (.stcWStorePreDec erd) := Laws.extent_of_ble rfl rfl
theorem Laws.Extent.stcWStoreAbs16 (abs16 : BitVec 16) : Laws.Extent.Statement (.stcWStoreAbs16 abs16) := Laws.extent_of_ble rfl rfl
theorem Laws.Extent.stcWStoreAbs24 (abs24 : BitVec 24) : Laws.Extent.Statement (.stcWStoreAbs24 abs24) := Laws.extent_of_ble rfl rfl
theorem Laws.Extent.andc (imm8 : BitVec 8) : Laws.Extent.Statement (.andc imm8) := Laws.extent_of_ble rfl rfl
theorem Laws.Extent.orc (imm8 : BitVec 8) : Laws.Extent.Statement (.orc imm8) := Laws.extent_of_ble rfl rfl
theorem Laws.Extent.xorc (imm8 : BitVec 8) : Laws.Extent.Statement (.xorc imm8) := Laws.extent_of_ble rfl rfl
theorem Laws.Extent.nop : Laws.Extent.Statement .nop := Laws.extent_of_ble rfl rfl
theorem Laws.Extent.eepmovB : Laws.Extent.Statement .eepmovB := Laws.extent_of_ble rfl rfl
theorem Laws.Extent.eepmovW : Laws.Extent.Statement .eepmovW := Laws.extent_of_ble rfl rfl

end Sys2Proof
end

