-- ==== Sys2Proof/Laws/Values.lean ====
section
/-! SUPPORT. What the value functions of Machine/Flags.lean give: products, quotients, shifted values, bits of a byte (R255 to
R260, R270 to R273, R322, R360 to R364). -/

namespace Sys2Proof.Machine

/-! ### Products -/

/-- The unsigned product is exact when the result is wide enough. -/
theorem mulUnsigned_toNat {w m : Nat} (h : 2 * w ≤ m) (a b : BitVec w) :
    (mulUnsigned m a b).toNat = a.toNat * b.toNat := by
  unfold mulUnsigned
  rw [BitVec.toNat_ofNat]
  refine Nat.mod_eq_of_lt (lt_of_lt_of_le (Nat.mul_lt_mul'' a.isLt b.isLt) ?_)
  rw [← Nat.pow_add]
  exact Nat.pow_le_pow_right (by decide) (by omega)

/-- The signed product is exact when the result is wide enough. -/
theorem mulSigned_toInt {w m : Nat} (hw : 0 < w) (h : 2 * w ≤ m) (a b : BitVec w) :
    (mulSigned m a b).toInt = a.toInt * b.toInt := by
  unfold mulSigned
  have ha : |a.toInt| ≤ 2 ^ (w - 1) := abs_le.2 ⟨BitVec.le_toInt a, le_of_lt BitVec.toInt_lt⟩
  have hb : |b.toInt| ≤ 2 ^ (w - 1) := abs_le.2 ⟨BitVec.le_toInt b, le_of_lt BitVec.toInt_lt⟩
  have hab : |a.toInt * b.toInt| ≤ 2 ^ (w - 1) * 2 ^ (w - 1) := by
    rw [abs_mul]
    exact mul_le_mul ha hb (abs_nonneg _) (by positivity)
  have hlt : (2 : Int) ^ (w - 1) * 2 ^ (w - 1) < 2 ^ (m - 1) := by
    rw [← pow_add]
    exact pow_lt_pow_right₀ (by decide) (by omega)
  have := abs_lt.1 (lt_of_le_of_lt hab hlt)
  exact BitVec.toInt_ofInt_eq_self (by omega) (le_of_lt this.1) this.2

/-! ### Quotients -/

/-- Unsigned division where its result is guaranteed (R260). -/
theorem divUnsigned_spec {m w : Nat} (d : BitVec m) (b : BitVec w) (hb : b.toNat ≠ 0) (hq : d.toNat / b.toNat < 2 ^ w) :
    ∃ r q, divUnsigned d b = some (r, q) ∧ d.toNat = q.toNat * b.toNat + r.toNat ∧ r.toNat < b.toNat := by
  unfold divUnsigned
  have h0 : ¬(b = 0#w ∨ 2 ^ w ≤ d.toNat / b.toNat) := by
    rintro (h | h)
    · simp [h] at hb
    · omega
  rw [if_neg h0]
  have hr := Nat.mod_lt d.toNat (Nat.pos_of_ne_zero hb)
  refine ⟨_, _, rfl, ?_, ?_⟩
  · rw [BitVec.toNat_ofNat, BitVec.toNat_ofNat, Nat.mod_eq_of_lt hq, Nat.mod_eq_of_lt (hr.trans b.isLt), Nat.mul_comm]
    exact (Nat.div_add_mod _ _).symm
  · rw [BitVec.toNat_ofNat, Nat.mod_eq_of_lt (hr.trans b.isLt)]
    exact hr

/-- Signed division where its result is guaranteed (R257): the remainder has the sign of the dividend. -/
theorem divSigned_spec {m w : Nat} (hw : 0 < w) (d : BitVec m) (b : BitVec w) (hb : b.toInt ≠ 0)
    (h1 : -2 ^ (w - 1) ≤ d.toInt.tdiv b.toInt) (h2 : d.toInt.tdiv b.toInt < 2 ^ (w - 1)) :
    ∃ r q, divSigned d b = some (r, q) ∧ d.toInt = q.toInt * b.toInt + r.toInt ∧ |r.toInt| < |b.toInt| ∧
      (0 ≤ d.toInt → 0 ≤ r.toInt) ∧ (d.toInt ≤ 0 → r.toInt ≤ 0) := by
  unfold divSigned
  have h0 : ¬(b = 0#w ∨ d.toInt.tdiv b.toInt < -(2 : Int) ^ (w - 1) ∨ (2 : Int) ^ (w - 1) ≤ d.toInt.tdiv b.toInt) := by
    rintro (h | h | h)
    · simp [h] at hb
    · omega
    · omega
  have hr : |d.toInt.tmod b.toInt| < |b.toInt| := by
    have h3 : (d.toInt.tmod b.toInt).natAbs < b.toInt.natAbs := by
      rw [Int.natAbs_tmod]
      exact Nat.mod_lt _ (Int.natAbs_pos.2 hb)
    rw [Int.abs_eq_natAbs, Int.abs_eq_natAbs]
    exact_mod_cast h3
  have ha : |b.toInt| ≤ 2 ^ (w - 1) := abs_le.2 ⟨BitVec.le_toInt b, le_of_lt BitVec.toInt_lt⟩
  have hr' := abs_lt.1 (lt_of_lt_of_le hr ha)
  have er : (BitVec.ofInt w (d.toInt.tmod b.toInt)).toInt = d.toInt.tmod b.toInt :=
    BitVec.toInt_ofInt_eq_self hw (le_of_lt hr'.1) hr'.2
  have eq : (BitVec.ofInt w (d.toInt.tdiv b.toInt)).toInt = d.toInt.tdiv b.toInt :=
    BitVec.toInt_ofInt_eq_self hw h1 h2
  dsimp only
  rw [if_neg h0]
  refine ⟨_, _, rfl, ?_, ?_, ?_, ?_⟩
  · rw [er, eq, mul_comm]
    exact (Int.mul_tdiv_add_tmod _ _).symm
  · rw [er]
    exact hr
  · rw [er]
    exact fun h => Int.tmod_nonneg _ h
  · rw [er]
    intro h
    have := Int.tmod_nonneg (a := -d.toInt) b.toInt (by omega)
    rw [Int.neg_tmod] at this
    omega

/-! ### Shifted values -/

theorem bitAt_getLsbD (w n k : Nat) (b : Bool) (hk : k < w) : (bitAt w n b).getLsbD k = (b && decide (k = n)) := by
  cases b
  · simp [bitAt]
  · unfold bitAt
    simp only [if_true, BitVec.getLsbD_shiftLeft, BitVec.getLsbD_one, Bool.true_and]
    grind

theorem movedLeft_or_bitAt {w : Nat} (d : BitVec w) (b : Bool) : MovedLeft d (d <<< 1 ||| bitAt w 0 b) b := by
  intro k hk
  rw [BitVec.getLsbD_or, bitAt_getLsbD _ _ _ _ hk, BitVec.getLsbD_shiftLeft]
  by_cases h : k = 0
  · simp [h]
  · have h1 : ¬k < 1 := by omega
    simp [h, hk, h1]

theorem movedLeft_shiftLeft {w : Nat} (d : BitVec w) : MovedLeft d (d <<< 1) false := by
  have h := movedLeft_or_bitAt d false
  simpa [bitAt] using h

theorem movedRight_or_bitAt {w : Nat} (d : BitVec w) (b : Bool) : MovedRight d (d >>> 1 ||| bitAt w (w - 1) b) b := by
  intro k hk
  rw [BitVec.getLsbD_or, bitAt_getLsbD _ _ _ _ hk, BitVec.getLsbD_ushiftRight, Nat.add_comm]
  by_cases h : k = w - 1
  · rw [BitVec.getLsbD_of_ge d (k + 1) (by omega)]
    simp [h]
  · simp [h]

theorem movedRight_ushiftRight {w : Nat} (d : BitVec w) : MovedRight d (d >>> 1) false := by
  have h := movedRight_or_bitAt d false
  simpa [bitAt] using h

theorem movedRight_sshiftRight {w : Nat} (d : BitVec w) : MovedRight d (d.sshiftRight 1) d.msb := by
  intro k hk
  rw [BitVec.getLsbD_sshiftRight]
  by_cases h : k = w - 1
  · rw [if_pos h]
    have h1 : ¬1 + k < w := by omega
    have h2 : ¬w ≤ k := by omega
    simp [h1, h2]
  · rw [if_neg h]
    have h1 : k + 1 < w := by omega
    have h2 : ¬w ≤ k := by omega
    simp [h1, h2, Nat.add_comm]

/-! ### Bits of a byte -/

/-- Writing one bit of a byte changes that bit only. -/
theorem byteWithBit_spec (x : Byte) (n : BitVec 3) (b : Bool) : BitReplaced x (byteWithBit x n b) n.toNat b := by
  have key : ∀ n : BitVec 3, ∀ k : Fin 8, (1#8 <<< n.toNat).getLsbD k.val = decide (k.val = n.toNat) := by decide
  intro k hk
  have hb := key n ⟨k, hk⟩
  simp only at hb
  unfold byteWithBit
  cases b
  · simp only [Bool.false_eq_true, if_false, BitVec.getLsbD_and, BitVec.getLsbD_not, hb, hk, decide_true, Bool.true_and]
    by_cases h : k = n.toNat <;> simp [h]
  · simp only [if_true, BitVec.getLsbD_or, hb]
    by_cases h : k = n.toNat <;> simp [h]

/-- A register gives a bit number modulo 8 (R361). -/
theorem bitNumber_toNat (x : Byte) : (bitNumber x).toNat = x.toNat % 8 := by
  simp [bitNumber]

end Sys2Proof.Machine
end

