-- ==== Sys2Proof/Tests/Slice0.lean ====
section
/-! SUPPORT. The model's own tests. Expected values come from the spec: the encodings of 30_encoding.md and of the
instruction rules, the worked examples of 95_test_vectors.md and the vectors of 96_test_vectors_derived.md. At the end
stand the witnesses: for each obligation with hypotheses, a state and operands that meet them together. -/

namespace Sys2Proof.Tests

open Sys2Proof.Machine

set_option Elab.async false

noncomputable section

/-- Whether an outcome is a next state that `p` holds of. -/
def after (o : Host.Outcome State Fault Refusal) (p : State → Bool) : Bool :=
  match o with
  | .next t => p t
  | .fault _ => false
  | .refused _ => false

/-- Whether an outcome is a given refusal. -/
def refusedAs (o : Host.Outcome State Fault Refusal) (r : Refusal) : Bool :=
  match o with
  | .next _ => false
  | .fault _ => false
  | .refused q => decide (q = r)

/-- Whether each list of words decodes to its instruction and is that instruction's encoding. -/
def reads (l : List (List Word × Instr)) : Bool :=
  l.all fun x => decide (decode x.1 = .instr x.2) && decide (encode x.2 = x.1)

/-- A state to start from: program execution at H'000100, advanced mode, all of memory on-chip RAM. -/
def start : State := { State.reset with pc := 0x100#24, inhibitInt := false, ccr := 0 }

/-- `start` with general registers 0, 1, 4, 5, 6, 7. -/
def withRegs (er0 er1 er4 er5 er6 er7 : Long) : State :=
  { start with regs := ⟨er0, er1, 0, 0, er4, er5, er6, er7⟩ }

/-- The word in memory at an address. -/
def wordIn (s : State) (a : Nat) : Option Word := do
  let hi ← Memory.lookup s.mem a
  let lo ← Memory.lookup s.mem (a + 1)
  return hi ++ lo

/-! ### Well-formedness: a term of each check that is refused -/

theorem test_wellFormed_movWLoadPostInc : (Instr.movWLoadPostInc 7 (.r 0)).wellFormed = false := by decide
theorem test_wellFormed_movWStorePreDec : (Instr.movWStorePreDec (.r 0) 7).wellFormed = false := by decide
theorem test_wellFormed_movLLoadPostInc : (Instr.movLLoadPostInc 7 0).wellFormed = false := by decide
theorem test_wellFormed_movLStorePreDec : (Instr.movLStorePreDec 0 7).wellFormed = false := by decide

/-! ### Decoding: every constructor, from a word written out from its row's encoding -/

theorem test_decode_transfer_a : reads [
    ([0xF9A7], .movBImm 0xA7 (.l 1)),
    ([0x0C2D], .movBReg (.h 2) (.l 5)),
    ([0x6814], .movBLoadInd 1 (.h 4)),
    ([0x6E6B, 0x8C31], .movBLoadDisp16 0x8C31 6 (.l 3)),
    ([0x7820, 0x6A26, 0x0081, 0xF2E4], .movBLoadDisp24 0x81F2E4 2 (.h 6)),
    ([0x6C39], .movBLoadPostInc 3 (.l 1)),
    ([0x29A7], .movBLoadAbs8 0xA7 (.l 1)),
    ([0x6A02, 0x8C31], .movBLoadAbs16 0x8C31 (.h 2)),
    ([0x6A2D, 0x0081, 0xF2E4], .movBLoadAbs24 0x81F2E4 (.l 5)),
    ([0x68AB], .movBStoreInd (.l 3) 2),
    ([0x6CB6], .movBStorePreDec (.h 6) 3),
    ([0x6ED9, 0x8C31], .movBStoreDisp16 (.l 1) 0x8C31 5),
    ([0x7810, 0x6AA2, 0x0081, 0xF2E4], .movBStoreDisp24 (.h 2) 0x81F2E4 1),
    ([0x32A7], .movBStoreAbs8 (.h 2) 0xA7),
    ([0x6A8D, 0x8C31], .movBStoreAbs16 (.l 5) 0x8C31),
    ([0x6AA4, 0x0081, 0xF2E4], .movBStoreAbs24 (.h 4) 0x81F2E4),
    ([0x790B, 0x8C31], .movWImm 0x8C31 (.e 3))] = true := by
  decide +kernel

theorem test_decode_transfer_b : reads [
    ([0x0D69], .movWReg (.r 6) (.e 1)),
    ([0x6962], .movWLoadInd 6 (.r 2)),
    ([0x6F2D, 0x8C31], .movWLoadDisp16 0x8C31 2 (.e 5)),
    ([0x7830, 0x6B24, 0x0081, 0xF2E4], .movWLoadDisp24 0x81F2E4 3 (.r 4)),
    ([0x6D5B], .movWLoadPostInc 5 (.e 3)),
    ([0x6B0B, 0x8C31], .movWLoadAbs16 0x8C31 (.e 3)),
    ([0x6B26, 0x0081, 0xF2E4], .movWLoadAbs24 0x81F2E4 (.r 6)),
    ([0x69A2], .movWStoreInd (.r 2) 2),
    ([0x6DBD], .movWStorePreDec (.e 5) 3),
    ([0x6FD4, 0x8C31], .movWStoreDisp16 (.r 4) 0x8C31 5),
    ([0x7810, 0x6BAB, 0x0081, 0xF2E4], .movWStoreDisp24 (.e 3) 0x81F2E4 1),
    ([0x6B8B, 0x8C31], .movWStoreAbs16 (.e 3) 0x8C31),
    ([0x6BA6, 0x0081, 0xF2E4], .movWStoreAbs24 (.r 6) 0x81F2E4),
    ([0x7A03, 0x9ABC, 0x0D5E], .movLImm 0x9ABC0D5E 3),
    ([0x0FD1], .movLReg 5 1),
    ([0x0100, 0x6916], .movLLoadInd 1 6),
    ([0x0100, 0x6F62, 0x8C31], .movLLoadDisp16 0x8C31 6 2)] = true := by
  decide +kernel

theorem test_decode_transfer_c : reads [
    ([0x0100, 0x7820, 0x6B23, 0x0081, 0xF2E4], .movLLoadDisp24 0x81F2E4 2 3),
    ([0x0100, 0x6D35], .movLLoadPostInc 3 5),
    ([0x0100, 0x6B05, 0x8C31], .movLLoadAbs16 0x8C31 5),
    ([0x0100, 0x6B21, 0x0081, 0xF2E4], .movLLoadAbs24 0x81F2E4 1),
    ([0x0100, 0x6DE2], .movLStorePreDec 2 6),
    ([0x0100, 0x69A3], .movLStoreInd 3 2),
    ([0x0100, 0x6FB5, 0x8C31], .movLStoreDisp16 5 0x8C31 3),
    ([0x0100, 0x7850, 0x6BA1, 0x0081, 0xF2E4], .movLStoreDisp24 1 0x81F2E4 5),
    ([0x0100, 0x6B81, 0x8C31], .movLStoreAbs16 1 0x8C31),
    ([0x0100, 0x6BA6, 0x0081, 0xF2E4], .movLStoreAbs24 6 0x81F2E4),
    ([0x6DFD], .pushW (.e 5)),
    ([0x0100, 0x6DF3], .pushL 3),
    ([0x6D7B], .popW (.e 3)),
    ([0x0100, 0x6D71], .popL 1),
    ([0x6A49, 0x8C31], .movfpe 0x8C31 (.l 1)),
    ([0x6AC2, 0x8C31], .movtpe (.h 2) 0x8C31)] = true := by
  decide +kernel

theorem test_decode_arithmetic_a : reads [
    ([0x8DA7], .addBImm 0xA7 (.l 5)),
    ([0x084B], .addBReg (.h 4) (.l 3)),
    ([0x791B, 0x8C31], .addWImm 0x8C31 (.e 3)),
    ([0x0969], .addWReg (.r 6) (.e 1)),
    ([0x7A12, 0x9ABC, 0x0D5E], .addLImm 0x9ABC0D5E 2),
    ([0x0AB5], .addLReg 3 5),
    ([0x0B05], .adds1 5),
    ([0x0B81], .adds2 1),
    ([0x0B96], .adds4 6),
    ([0x96A7], .addxImm 0xA7 (.h 6)),
    ([0x0E92], .addxReg (.l 1) (.h 2)),
    ([0xA2A7], .cmpBImm 0xA7 (.h 2)),
    ([0x1CD4], .cmpBReg (.l 5) (.h 4)),
    ([0x7924, 0x8C31], .cmpWImm 0x8C31 (.r 4)),
    ([0x1DB6], .cmpWReg (.e 3) (.r 6)),
    ([0x7A23, 0x9ABC, 0x0D5E], .cmpLImm 0x9ABC0D5E 3),
    ([0x1FD1], .cmpLReg 5 1),
    ([0x0F02], .daa (.h 2))] = true := by
  decide +kernel

theorem test_decode_arithmetic_b : reads [
    ([0x1F0D], .das (.l 5)),
    ([0x1A04], .decB (.h 4)),
    ([0x1B5B], .decW1 (.e 3)),
    ([0x1BD6], .decW2 (.r 6)),
    ([0x1B71], .decL1 1),
    ([0x1BF6], .decL2 6),
    ([0x01D0, 0x51D4], .divxsBReg (.l 5) (.r 4)),
    ([0x01D0, 0x5345], .divxsWReg (.r 4) 5),
    ([0x51B6], .divxuBReg (.l 3) (.r 6)),
    ([0x5366], .divxuWReg (.r 6) 6),
    ([0x17D9], .extsW (.e 1)),
    ([0x17F2], .extsL 2),
    ([0x175D], .extuW (.e 5)),
    ([0x1775], .extuL 5),
    ([0x0A0B], .incB (.l 3)),
    ([0x0B56], .incW1 (.r 6)),
    ([0x0BD9], .incW2 (.e 1)),
    ([0x0B73], .incL1 3)] = true := by
  decide +kernel

theorem test_decode_arithmetic_c : reads [
    ([0x0BF5], .incL2 5),
    ([0x01C0, 0x504B], .mulxsBReg (.h 4) (.e 3)),
    ([0x01C0, 0x52B2], .mulxsWReg (.e 3) 2),
    ([0x5069], .mulxuBReg (.h 6) (.e 1)),
    ([0x5295], .mulxuWReg (.e 1) 5),
    ([0x1782], .negB (.h 2)),
    ([0x179D], .negW (.e 5)),
    ([0x17B6], .negL 6),
    ([0x18B6], .subBReg (.l 3) (.h 6)),
    ([0x7936, 0x8C31], .subWImm 0x8C31 (.r 6)),
    ([0x1992], .subWReg (.e 1) (.r 2)),
    ([0x7A31, 0x9ABC, 0x0D5E], .subLImm 0x9ABC0D5E 1),
    ([0x1AE2], .subLReg 6 2),
    ([0x1B02], .subs1 2),
    ([0x1B83], .subs2 3),
    ([0x1B95], .subs4 5),
    ([0xB9A7], .subxImm 0xA7 (.l 1)),
    ([0x1E2D], .subxReg (.h 2) (.l 5))] = true := by
  decide +kernel

theorem test_decode_logic_shift_a : reads [
    ([0xEDA7], .andBImm 0xA7 (.l 5)),
    ([0x164B], .andBReg (.h 4) (.l 3)),
    ([0x796B, 0x8C31], .andWImm 0x8C31 (.e 3)),
    ([0x6669], .andWReg (.r 6) (.e 1)),
    ([0x7A66, 0x9ABC, 0x0D5E], .andLImm 0x9ABC0D5E 6),
    ([0x01F0, 0x6623], .andLReg 2 3),
    ([0xCDA7], .orBImm 0xA7 (.l 5)),
    ([0x144B], .orBReg (.h 4) (.l 3)),
    ([0x794B, 0x8C31], .orWImm 0x8C31 (.e 3)),
    ([0x6469], .orWReg (.r 6) (.e 1)),
    ([0x7A42, 0x9ABC, 0x0D5E], .orLImm 0x9ABC0D5E 2),
    ([0x01F0, 0x6435], .orLReg 3 5),
    ([0xDDA7], .xorBImm 0xA7 (.l 5)),
    ([0x154B], .xorBReg (.h 4) (.l 3)),
    ([0x795B, 0x8C31], .xorWImm 0x8C31 (.e 3))] = true := by
  decide +kernel

theorem test_decode_logic_shift_b : reads [
    ([0x6569], .xorWReg (.r 6) (.e 1)),
    ([0x7A53, 0x9ABC, 0x0D5E], .xorLImm 0x9ABC0D5E 3),
    ([0x01F0, 0x6551], .xorLReg 5 1),
    ([0x170D], .notB (.l 5)),
    ([0x1714], .notW (.r 4)),
    ([0x1732], .notL 2),
    ([0x1086], .shalB (.h 6)),
    ([0x1099], .shalW (.e 1)),
    ([0x10B1], .shalL 1),
    ([0x118D], .sharB (.l 5)),
    ([0x1194], .sharW (.r 4)),
    ([0x11B3], .sharL 3),
    ([0x1006], .shllB (.h 6)),
    ([0x1019], .shllW (.e 1)),
    ([0x1036], .shllL 6)] = true := by
  decide +kernel

theorem test_decode_logic_shift_c : reads [
    ([0x110D], .shlrB (.l 5)),
    ([0x1114], .shlrW (.r 4)),
    ([0x1135], .shlrL 5),
    ([0x1286], .rotlB (.h 6)),
    ([0x1299], .rotlW (.e 1)),
    ([0x12B2], .rotlL 2),
    ([0x138D], .rotrB (.l 5)),
    ([0x1394], .rotrW (.r 4)),
    ([0x13B1], .rotrL 1),
    ([0x1206], .rotxlB (.h 6)),
    ([0x1219], .rotxlW (.e 1)),
    ([0x1233], .rotxlL 3),
    ([0x130D], .rotxrB (.l 5)),
    ([0x1314], .rotxrW (.r 4)),
    ([0x1336], .rotxrL 6)] = true := by
  decide +kernel

theorem test_decode_bit_a : reads [
    ([0x7029], .bsetImmReg 0x2 (.l 1)),
    ([0x7D30, 0x7050], .bsetImmInd 0x5 3),
    ([0x7FA7, 0x7050], .bsetImmAbs8 0x5 0xA7),
    ([0x60D4], .bsetRegReg (.l 5) (.h 4)),
    ([0x7D60, 0x60B0], .bsetRegInd (.l 3) 6),
    ([0x7FA7, 0x60B0], .bsetRegAbs8 (.l 3) 0xA7),
    ([0x7239], .bclrImmReg 0x3 (.l 1)),
    ([0x7D50, 0x7210], .bclrImmInd 0x1 5),
    ([0x7FA7, 0x7210], .bclrImmAbs8 0x1 0xA7),
    ([0x62D4], .bclrRegReg (.l 5) (.h 4)),
    ([0x7D20, 0x62B0], .bclrRegInd (.l 3) 2),
    ([0x7FA7, 0x62B0], .bclrRegAbs8 (.l 3) 0xA7),
    ([0x7159], .bnotImmReg 0x5 (.l 1)),
    ([0x7D10, 0x7160], .bnotImmInd 0x6 1),
    ([0x7FA7, 0x7160], .bnotImmAbs8 0x6 0xA7),
    ([0x61D4], .bnotRegReg (.l 5) (.h 4)),
    ([0x7D30, 0x61B0], .bnotRegInd (.l 3) 3),
    ([0x7FA7, 0x61B0], .bnotRegAbs8 (.l 3) 0xA7)] = true := by
  decide +kernel

theorem test_decode_bit_b : reads [
    ([0x7319], .btstImmReg 0x1 (.l 1)),
    ([0x7C60, 0x7320], .btstImmInd 0x2 6),
    ([0x7EA7, 0x7320], .btstImmAbs8 0x2 0xA7),
    ([0x63D4], .btstRegReg (.l 5) (.h 4)),
    ([0x7C50, 0x63B0], .btstRegInd (.l 3) 5),
    ([0x7EA7, 0x63B0], .btstRegAbs8 (.l 3) 0xA7),
    ([0x7669], .bandImmReg 0x6 (.l 1)),
    ([0x7C20, 0x7630], .bandImmInd 0x3 2),
    ([0x7EA7, 0x7630], .bandImmAbs8 0x3 0xA7),
    ([0x76D4], .biandImmReg 0x5 (.h 4)),
    ([0x7C10, 0x76E0], .biandImmInd 0x6 1),
    ([0x7EA7, 0x76E0], .biandImmAbs8 0x6 0xA7),
    ([0x7429], .borImmReg 0x2 (.l 1)),
    ([0x7C30, 0x7450], .borImmInd 0x5 3),
    ([0x7EA7, 0x7450], .borImmAbs8 0x5 0xA7),
    ([0x7494], .biorImmReg 0x1 (.h 4)),
    ([0x7C60, 0x74A0], .biorImmInd 0x2 6),
    ([0x7EA7, 0x74A0], .biorImmAbs8 0x2 0xA7)] = true := by
  decide +kernel

theorem test_decode_bit_c : reads [
    ([0x7539], .bxorImmReg 0x3 (.l 1)),
    ([0x7C50, 0x7510], .bxorImmInd 0x1 5),
    ([0x7EA7, 0x7510], .bxorImmAbs8 0x1 0xA7),
    ([0x75E4], .bixorImmReg 0x6 (.h 4)),
    ([0x7C20, 0x75B0], .bixorImmInd 0x3 2),
    ([0x7EA7, 0x75B0], .bixorImmAbs8 0x3 0xA7),
    ([0x7759], .bldImmReg 0x5 (.l 1)),
    ([0x7C10, 0x7760], .bldImmInd 0x6 1),
    ([0x7EA7, 0x7760], .bldImmAbs8 0x6 0xA7),
    ([0x77A4], .bildImmReg 0x2 (.h 4)),
    ([0x7C30, 0x77D0], .bildImmInd 0x5 3),
    ([0x7EA7, 0x77D0], .bildImmAbs8 0x5 0xA7),
    ([0x6719], .bstImmReg 0x1 (.l 1)),
    ([0x7D60, 0x6720], .bstImmInd 0x2 6),
    ([0x7FA7, 0x6720], .bstImmAbs8 0x2 0xA7),
    ([0x67B4], .bistImmReg 0x3 (.h 4)),
    ([0x7D50, 0x6790], .bistImmInd 0x1 5),
    ([0x7FA7, 0x6790], .bistImmAbs8 0x1 0xA7)] = true := by
  decide +kernel

theorem test_decode_branch_a : reads [
    ([0x40A7], .braD8 0xA7),
    ([0x41A7], .brnD8 0xA7),
    ([0x42A7], .bhiD8 0xA7),
    ([0x43A7], .blsD8 0xA7),
    ([0x44A7], .bccD8 0xA7),
    ([0x45A7], .bcsD8 0xA7),
    ([0x46A7], .bneD8 0xA7),
    ([0x47A7], .beqD8 0xA7),
    ([0x48A7], .bvcD8 0xA7),
    ([0x49A7], .bvsD8 0xA7),
    ([0x4AA7], .bplD8 0xA7),
    ([0x4BA7], .bmiD8 0xA7),
    ([0x4CA7], .bgeD8 0xA7),
    ([0x4DA7], .bltD8 0xA7)] = true := by
  decide +kernel

theorem test_decode_branch_b : reads [
    ([0x4EA7], .bgtD8 0xA7),
    ([0x4FA7], .bleD8 0xA7),
    ([0x5800, 0x8C31], .braD16 0x8C31),
    ([0x5810, 0x8C31], .brnD16 0x8C31),
    ([0x5820, 0x8C31], .bhiD16 0x8C31),
    ([0x5830, 0x8C31], .blsD16 0x8C31),
    ([0x5840, 0x8C31], .bccD16 0x8C31),
    ([0x5850, 0x8C31], .bcsD16 0x8C31),
    ([0x5860, 0x8C31], .bneD16 0x8C31),
    ([0x5870, 0x8C31], .beqD16 0x8C31),
    ([0x5880, 0x8C31], .bvcD16 0x8C31),
    ([0x5890, 0x8C31], .bvsD16 0x8C31),
    ([0x58A0, 0x8C31], .bplD16 0x8C31),
    ([0x58B0, 0x8C31], .bmiD16 0x8C31)] = true := by
  decide +kernel

theorem test_decode_branch_c : reads [
    ([0x58C0, 0x8C31], .bgeD16 0x8C31),
    ([0x58D0, 0x8C31], .bltD16 0x8C31),
    ([0x58E0, 0x8C31], .bgtD16 0x8C31),
    ([0x58F0, 0x8C31], .bleD16 0x8C31),
    ([0x55A7], .bsrD8 0xA7),
    ([0x5C00, 0x8C31], .bsrD16 0x8C31),
    ([0x5910], .jmpInd 1),
    ([0x5A81, 0xF2E4], .jmpAbs24 0x81F2E4),
    ([0x5BA7], .jmpMemInd 0xA7),
    ([0x5D30], .jsrInd 3),
    ([0x5E81, 0xF2E4], .jsrAbs24 0x81F2E4),
    ([0x5FA7], .jsrMemInd 0xA7),
    ([0x5470], .rts)] = true := by
  decide +kernel

theorem test_decode_system_a : reads [
    ([0x5720], .trapa 0x2),
    ([0x5670], .rte),
    ([0x0180], .sleep),
    ([0x07A7], .ldcBImm 0xA7),
    ([0x030D], .ldcBReg (.l 5)),
    ([0x0140, 0x6920], .ldcWLoadInd 2),
    ([0x0140, 0x6F30, 0x8C31], .ldcWLoadDisp16 0x8C31 3),
    ([0x0140, 0x7850, 0x6B20, 0x0081, 0xF2E4], .ldcWLoadDisp24 0x81F2E4 5),
    ([0x0140, 0x6D10], .ldcWLoadPostInc 1),
    ([0x0140, 0x6B00, 0x8C31], .ldcWLoadAbs16 0x8C31),
    ([0x0140, 0x6B20, 0x0081, 0xF2E4], .ldcWLoadAbs24 0x81F2E4)] = true := by
  decide +kernel

theorem test_decode_system_b : reads [
    ([0x0204], .stcBReg (.h 4)),
    ([0x0140, 0x69D0], .stcWStoreInd 5),
    ([0x0140, 0x6F90, 0x8C31], .stcWStoreDisp16 0x8C31 1),
    ([0x0140, 0x7860, 0x6BA0, 0x0081, 0xF2E4], .stcWStoreDisp24 0x81F2E4 6),
    ([0x0140, 0x6DA0], .stcWStorePreDec 2),
    ([0x0140, 0x6B80, 0x8C31], .stcWStoreAbs16 0x8C31),
    ([0x0140, 0x6BA0, 0x0081, 0xF2E4], .stcWStoreAbs24 0x81F2E4),
    ([0x06A7], .andc 0xA7),
    ([0x04A7], .orc 0xA7),
    ([0x05A7], .xorc 0xA7),
    ([0x0000], .nop)] = true := by
  decide +kernel

theorem test_decode_block : reads [
    ([0x7B5C, 0x598F], .eepmovB),
    ([0x7BD4, 0x598F], .eepmovW)] = true := by
  decide +kernel

/-- Codes with a fixed bit changed, blank cells of the maps R110 to R112, and a prefix without its body (R114, D22). -/
theorem test_undefined_codes :
    ([[0x5471], [0x0180, 0x0000], [0x7B5C, 0x598E], [0x7A90], [0x0140, 0x6D78], [0x5708], [0x7C10, 0x7080], [0x01C0, 0x5381],
      [0x0110]] : List (List Word)).map decode =
    [.undefinedCode, .instr .sleep, .undefinedCode, .undefinedCode, .undefinedCode, .undefinedCode, .undefinedCode,
      .undefinedCode, .undefinedCode] := by
  decide +kernel

/-- The host's numbering: one big-endian number (R119). -/
theorem test_decodeTableWord :
    decodeTableWord 32 0x7F027080 = none ∧ decodeTableWord 32 0x7F027010 = some (.bsetImmAbs8 1 0x02) ∧
      decodeTableWord 16 0x0A92 = some (.addLReg 1 2) := by
  decide +kernel

/-- A placed word is fetched and run by the very next step: ORC #H'10,CCR (R453). -/
theorem test_withFetchWord : after (step (State.reset.withFetchWord 16 0x0410)) (fun t => t.ccr == 0x90#8) = true := by
  decide +kernel

/-! ### Data transfer (96, part for file 41) -/

theorem test_movB_imm : after (exec (.movBImm 0 (.h 0)) { start with regs := { start.regs with er0 := 0xFFFFFFFF } })
    (fun t => t.er 0 == 0xFFFF00FF#32 && t.ccr == 0x04#8) = true := by decide +kernel

theorem test_movB_postInc_normal : after (exec (.movBLoadPostInc 5 (.h 0))
    { withRegs 0 0 0 0xFFFF 0 0 with mode := .normal, mem := [(0xFFFF, 0x33#8)] })
    (fun t => t.er 0 == 0x3300#32 && t.er 5 == 0x10000#32) = true := by decide +kernel

theorem test_movB_preDec_own_pointer : after (exec (.movBStorePreDec (.l 1) 1) (withRegs 0 0x200010 0 0 0 0))
    (fun t => t.er 1 == 0x20000F#32 && Memory.lookup t.mem 0x20000F == some 0x0F#8) = true := by decide +kernel

theorem test_movB_disp24 : after (exec (.movBLoadDisp24 0x800000 5 (.l 0))
    { withRegs 0 0 0 0x00900010 0 0 with mem := [(0x100010, 1#8)] })
    (fun t => t.er 0 == 1#32 && t.pc == 0x108#24) = true := by decide +kernel

theorem test_movW_odd_address : after (exec (.movWStoreAbs24 (.e 1) 0x200001) (withRegs 0 0x12340000 0 0 0 0))
    (fun t => wordIn t 0x200000 == some 0x1234#16) = true := by decide +kernel

theorem test_movL_base_is_destination : after (exec (.movLLoadDisp16 4 1 1)
    { withRegs 0 0x200000 0 0 0 0 with
      mem := [(0x200004, 0xFF#8), (0x200005, 0xFF#8), (0x200006, 0xFF#8), (0x200007, 0xFE#8)] })
    (fun t => t.er 1 == 0xFFFFFFFE#32 && t.ccr == 0x08#8) = true := by decide +kernel

theorem test_pushL_sp : after (exec (.pushL 7) (withRegs 0 0 0 0 0 0xFFEF00))
    (fun t => wordIn t 0xFFEEFC == some 0x00FF#16 && wordIn t 0xFFEEFE == some 0xEEFC#16) = true := by decide +kernel

theorem test_popW : after (exec (.popW (.r 0)) { withRegs 0 0 0 0 0 0xFFEF00 with mem := [(0xFFEF00, 0xBE#8), (0xFFEF01, 0xEF#8)] })
    (fun t => t.er 0 == 0xBEEF#32 && t.sp == 0xFFEF02#32) = true := by decide +kernel

theorem test_movfpe_without_eclock : refusedAs (exec (.movfpe 0xF000 (.l 0)) { start with hasEClock := false }) .noEClock =
    true := by decide +kernel

/-! ### Arithmetic (file 42) -/

theorem test_addB_overflow : after (exec (.addBReg (.l 0) (.h 1)) (withRegs 0x7F 0x100 0 0 0 0))
    (fun t => t.er 1 == 0x8000#32 && t.ccr == 0x2A#8) = true := by decide +kernel

theorem test_addL_same : after (exec (.addLReg 1 1) (withRegs 0 0x80000000 0 0 0 0))
    (fun t => t.er 1 == 0#32 && t.ccr == 0x07#8) = true := by decide +kernel

theorem test_adds2_carries_into_e : after (exec (.adds2 1) (withRegs 0 0xFFFF 0 0 0 0)) (fun t => t.er 1 == 0x10001#32) =
    true := by decide +kernel

theorem test_addx_keeps_z_clear : after (exec (.addxImm 0 (.l 0)) { withRegs 0xFF 0 0 0 0 0 with ccr := 0x01 })
    (fun t => t.er 0 == 0#32 && t.ccr == 0x21#8) = true := by decide +kernel

theorem test_subx_keeps_z_set : after (exec (.subxImm 0 (.l 0)) { withRegs 1 0 0 0 0 0 with ccr := 0x05 })
    (fun t => t.er 0 == 0#32 && t.ccr == 0x04#8) = true := by decide +kernel

theorem test_subB : after (exec (.subBReg (.l 1) (.l 0)) (withRegs 0 1 0 0 0 0))
    (fun t => t.er 0 == 0xFF#32 && t.ccr == 0x29#8) = true := by decide +kernel

theorem test_cmpW : after (exec (.cmpWReg (.r 1) (.e 0)) (withRegs 0x10000 0xFFFF 0 0 0 0))
    (fun t => t.er 0 == 0x10000#32 && t.ccr == 0x21#8) = true := by decide +kernel

theorem test_incB_keeps_c : after (exec (.incB (.h 0)) { withRegs 0x7F00 0 0 0 0 0 with ccr := 0x01 })
    (fun t => t.er 0 == 0x8000#32 && t.ccr == 0x0B#8) = true := by decide +kernel

theorem test_decW_only_r : after (exec (.decW1 (.r 0)) (withRegs 0x10000 0 0 0 0 0))
    (fun t => t.er 0 == 0x1FFFF#32 && t.ccr == 0x08#8) = true := by decide +kernel

theorem test_daa : after (exec (.daa (.l 0)) (withRegs 0x9A 0 0 0 0 0))
    (fun t => t.er 0 == 0#32) = true := by decide +kernel

theorem test_das : after (exec (.das (.l 0)) { withRegs 0xF9 0 0 0 0 0 with ccr := 0x29 })
    (fun t => t.er 0 == 0x93#32) = true := by decide +kernel

/-- 99 + 99 + 1 ends in 99, and so does 0 - 0 - 1 (R26, R248, R249). -/
theorem test_decimal_with_carry :
    after (exec (.addxReg (.h 0) (.l 0)) { withRegs 0x9999 0 0 0 0 0 with ccr := 0x01 })
      (fun t => after (exec (.daa (.l 0)) t) fun u => u.er 0 == 0x9999#32) = true ∧
    after (exec (.subxReg (.h 0) (.l 0)) { start with ccr := 0x01 })
      (fun t => after (exec (.das (.l 0)) t) fun u => u.er 0 == 0x99#32) = true := by decide +kernel

theorem test_divxsB : after (exec (.divxsBReg (.l 0) (.r 1)) (withRegs 2 0xFFF9 0 0 0 0))
    (fun t => t.er 1 == 0xFFFD#32 && t.ccr == 0x08#8) = true := by decide +kernel

theorem test_divxsW : after (exec (.divxsWReg (.r 0) 1) (withRegs 0xFED4 0x186A0 0 0 0 0))
    (fun t => t.er 1 == 0x0064FEB3#32 && t.ccr == 0x08#8) = true := by decide +kernel

theorem test_divxuB_by_zero_runs : after (exec (.divxuBReg (.l 0) (.r 1)) (withRegs 0 7 0 0 0 0))
    (fun t => t.ccr == 0x04#8 && t.pc == 0x102#24) = true := by decide +kernel

theorem test_divxuW : after (exec (.divxuWReg (.r 0) 1) (withRegs 0x100 0x12345 0 0 0 0)) (fun t => t.er 1 == 0x00450123#32) =
    true := by decide +kernel

theorem test_mulxsB : after (exec (.mulxsBReg (.l 0) (.r 1)) (withRegs 0xFF 0x5580 0 0 0 0))
    (fun t => t.er 1 == 0x80#32 && t.ccr == 0#8) = true := by decide +kernel

theorem test_mulxuW : after (exec (.mulxuWReg (.r 0) 1) (withRegs 0xFFFF 0x1234FFFF 0 0 0 0))
    (fun t => t.er 1 == 0xFFFE0001#32) = true := by decide +kernel

theorem test_extsW : after (exec (.extsW (.r 0)) (withRegs 0x12340080 0 0 0 0 0))
    (fun t => t.er 0 == 0x1234FF80#32 && t.ccr == 0x08#8) = true := by decide +kernel

theorem test_negW_zero : after (exec (.negW (.r 0)) { start with ccr := 0x09 }) (fun t => t.er 0 == 0#32 && t.ccr == 0x04#8) =
    true := by decide +kernel

/-! ### Logic and shift (file 43) -/

theorem test_andB : after (exec (.andBImm 0x0F (.l 0)) { withRegs 0xF0 0 0 0 0 0 with ccr := 0x23 })
    (fun t => t.er 0 == 0#32 && t.ccr == 0x25#8) = true := by decide +kernel

theorem test_notL : after (exec (.notL 0) start) (fun t => t.er 0 == 0xFFFFFFFF#32 && t.ccr == 0x08#8) = true := by
  decide +kernel

theorem test_shalB : after (exec (.shalB (.l 0)) (withRegs 0x40 0 0 0 0 0)) (fun t => t.er 0 == 0x80#32 && t.ccr == 0x0A#8) =
    true := by decide +kernel

theorem test_shllW : after (exec (.shllW (.r 0)) { withRegs 0x4000 0 0 0 0 0 with ccr := 0x02 })
    (fun t => t.er 0 == 0x8000#32 && t.ccr == 0x08#8) = true := by decide +kernel

theorem test_sharB : after (exec (.sharB (.l 0)) (withRegs 0x81 0 0 0 0 0)) (fun t => t.er 0 == 0xC0#32 && t.ccr == 0x09#8) =
    true := by decide +kernel

theorem test_rotrL : after (exec (.rotrL 0) (withRegs 1 0 0 0 0 0)) (fun t => t.er 0 == 0x80000000#32 && t.ccr == 0x09#8) =
    true := by decide +kernel

theorem test_rotxlB : after (exec (.rotxlB (.l 0)) (withRegs 0x80 0 0 0 0 0)) (fun t => t.er 0 == 0#32 && t.ccr == 0x05#8) =
    true := by decide +kernel

/-! ### Bit manipulation (file 44) -/

theorem test_bset_example : after (exec (.bsetRegReg (.l 1) (.h 2)) (withRegs 0 0xFB 0 0 0 0)) (fun t => t.er 2 == 0x800#32) =
    true := by decide +kernel

theorem test_bclr_own_number : after (exec (.bclrRegReg (.l 1) (.l 1)) (withRegs 0 0xFF 0 0 0 0)) (fun t => t.er 1 == 0x7F#32) =
    true := by decide +kernel

theorem test_bld_example : after (exec (.bldImmAbs8 5 0x02) { start with mem := [(0xFFFF02, 0x20#8)] })
    (fun t => t.ccr == 0x01#8 && t.pc == 0x104#24) = true := by decide +kernel

theorem test_btst_memory : after (exec (.btstImmInd 6 1) { withRegs 0 0x200000 0 0 0 0 with mem := [(0x200000, 0xBF#8)] })
    (fun t => t.ccr == 0x04#8) = true := by decide +kernel

theorem test_bixor_memory : after (exec (.bixorImmAbs8 1 0x02) { start with mem := [(0xFFFF02, 0xFD#8)] })
    (fun t => t.ccr == 0x01#8) = true := by decide +kernel

theorem test_bist_memory : after (exec (.bistImmAbs8 0 0xC7) { start with ccr := 0x01, mem := [(0xFFFFC7, 0xFF#8)] })
    (fun t => Memory.lookup t.mem 0xFFFFC7 == some 0xFE#8) = true := by decide +kernel

/-! ### Branch (file 45) -/

theorem test_bcs_wraps : after (exec (.bcsD16 0x8000) { start with pc := 0x2000, ccr := 0x01 }) (fun t => t.pc == 0xFFA004#24) =
    true := by decide +kernel

theorem test_ble_not_taken : after (exec (.bleD8 0x02) { start with ccr := 0x0A }) (fun t => t.pc == 0x102#24) = true := by
  decide +kernel

theorem test_bra_normal_wraps : after (exec (.braD8 0x7E) { start with mode := .normal, pc := 0xFFFE }) (fun t => t.pc == 0x7E#24) =
    true := by decide +kernel

theorem test_jsr_sp_before_push : after (exec (.jsrInd 7) (withRegs 0 0 0 0 0 0xFFEF00))
    (fun t => t.pc == 0xFFEF00#24 && wordIn t 0xFFEEFE == some 0x0102#16) = true := by decide +kernel

theorem test_jmp_memory_indirect : after (exec (.jmpMemInd 0x30)
    { start with mem := [(0x30, 0xAA#8), (0x31, 0x01#8), (0x32, 0x23#8), (0x33, 0x46#8)] }) (fun t => t.pc == 0x012346#24) =
    true := by decide +kernel

theorem test_rts_odd_normal : after (exec .rts
    { withRegs 0 0 0 0 0 0xEEFE with mode := .normal, mem := [(0xEEFE, 0x23#8), (0xEEFF, 0x47#8)] })
    (fun t => t.pc == 0x2346#24 && t.sp == 0xEF00#32) = true := by decide +kernel

/-! ### System control (file 46) -/

theorem test_trapa_advanced : after (exec (.trapa 2)
    { withRegs 0 0 0 0 0 0xFFEF00 with
      pc := 0x012344, ccr := 0x49, mem := [(0x28, 0#8), (0x29, 1#8), (0x2A, 0#8), (0x2B, 0#8)] })
    (fun t => t.pc == 0x010000#24 && wordIn t 0xFFEEFC == some 0x4901#16) = true := by decide +kernel

theorem test_trapa_normal_ui : after (exec (.trapa 3)
    { withRegs 0 0 0 0 0 0xEF00 with
      pc := 0x2344, ccr := 0x04, mode := .normal, uiIsMask := true, mem := [(0x16, 0x40#8), (0x17, 0#8)] })
    (fun t => t.pc == 0x4000#24 && t.ccr == 0xC4#8) = true := by decide +kernel

theorem test_rte_advanced : after (exec .rte
    { withRegs 0 0 0 0 0 0xFFEEFC with
      mem := [(0xFFEEFC, 0x49#8), (0xFFEEFD, 0x01#8), (0xFFEEFE, 0x23#8), (0xFFEEFF, 0x46#8)] })
    (fun t => t.pc == 0x012346#24 && t.ccr == 0x49#8) = true := by decide +kernel

theorem test_ldcB_inhibits : after (exec (.ldcBImm 0x80) { start with ccr := 0x2F }) (fun t => t.ccr == 0x80#8 && t.inhibitInt) =
    true := by decide +kernel

theorem test_ldcW_postInc : after (exec (.ldcWLoadPostInc 7)
    { withRegs 0 0 0 0 0 0xFFEEFE with mem := [(0xFFEEFE, 0x80#8), (0xFFEEFF, 0#8)] })
    (fun t => t.ccr == 0x80#8 && t.sp == 0xFFEF00#32) = true := by decide +kernel

theorem test_stcB : after (exec (.stcBReg (.h 0)) { start with ccr := 0x85 }) (fun t => t.er 0 == 0x8500#32) = true := by
  decide +kernel

theorem test_andc : after (exec (.andc 0xAF) { start with ccr := 0xFF }) (fun t => t.ccr == 0xAF#8) = true := by decide +kernel

theorem test_nop_wraps : after (exec .nop { start with mode := .normal, pc := 0xFFFE }) (fun t => t.pc == 0#24) = true := by
  decide +kernel

/-! ### Block transfer (file 47) -/

theorem test_eepmovB_overlap : after (exec .eepmovB
    { withRegs 0 0 2 0x200000 0x200001 0 with mem := [(0x200000, 0xAB#8), (0x200001, 1#8), (0x200002, 2#8)] })
    (fun t => wordIn t 0x200001 == some 0xABAB#16 && t.er 6 == 0x200003#32) = true := by decide +kernel

theorem test_eepmovW_stops_for_nmi : after (exec .eepmovW
    { withRegs 0 0 4 0x200000 0x200010 0 with
      lateNmi := some (2, ⟨true, 0x1C, false, false⟩)
      mem := [(0x200000, 1#8), (0x200001, 2#8), (0x200002, 3#8), (0x200003, 4#8)] })
    (fun t => t.er 4 == 2#32 && t.pc == 0x104#24 && t.nmiDue.isSome) = true := by decide +kernel

/-! ### Exceptions, processing states and memory (files 20, 60, 70) -/

/-- An IRQ is taken between instructions and leaves the request list (R490, R492). -/
theorem test_interrupt : after (step
    { withRegs 0 0 0 0 0 0xFFFF00 with
      pc := 0x12346, pending := [⟨false, 0x40, false, false⟩], mem := [(0x40, 0#8), (0x41, 2#8), (0x42, 0#8), (0x43, 0#8)] })
    (fun t => t.pc == 0x20000#24 && t.pending == []) = true := by decide +kernel

/-- A request on a slot that the spec fixes (here TRAPA #0) is refused (R483, U7). -/
theorem test_illegal_vector : refusedAs (step { start with pending := [⟨true, 0x20, false, false⟩] }) .illegalVector = true := by
  decide +kernel

/-- In normal mode H'010010 counts as TRAPA #0's entry H'0010, which it would read (log 26). -/
theorem test_illegal_vector_normal :
    refusedAs (step { start with mode := .normal, pending := [⟨true, 0x10010, false, false⟩] }) .illegalVector = true := by
  decide +kernel

/-- The NMI that cut an EEPMOV.W is entered at once, though the environment presents nothing any more (R472, D23). -/
theorem test_nmi_due : after (step
    { withRegs 0 0 0 0 0 0xFFFF00 with
      pc := 0x12346, nmiDue := some ⟨true, 0x1C, false, false⟩
      env := [⟨false, false, false, [], [], some [], none, none⟩]
      mem := [(0x1C, 0#8), (0x1D, 2#8), (0x1E, 0#8), (0x1F, 0#8)] })
    (fun t => t.pc == 0x20000#24 && t.nmiDue == none) = true := by decide +kernel

/-- After LDC the next boundary detects nothing (R491): the NOP at PC runs. -/
theorem test_inhibited_boundary : after (step
    { start with inhibitInt := true, pending := [⟨true, 0x1C, false, false⟩], mem := [(0x100, 0#8), (0x101, 0#8)] })
    (fun t => t.pc == 0x102#24 && !t.inhibitInt) = true := by decide +kernel

/-- Reset exception handling loads PC from the vector (R530). -/
theorem test_reset : after (step { start with proc := .reset, mem := [(0, 0#8), (1, 2#8), (2, 0#8), (3, 1#8)] })
    (fun t => t.pc == 0x20000#24 && t.proc == .programExecution && t.inhibitInt) = true := by decide +kernel

/-- SLEEP with SSBY = 1 enters software standby (R433, R501). -/
theorem test_sleep_standby : after (exec .sleep { start with ssby := true }) (fun t => t.proc == .softwareStandby) = true := by
  decide +kernel

/-- ROM drops writes (D25). -/
theorem test_rom : after (exec (.movBStoreAbs24 (.l 0) 0x1000)
    { start with memMap := [⟨0, 0x2000, .onChipMemory, false, true, 0⟩] }) (fun t => t.mem == []) = true := by decide +kernel

/-- A store into the four bytes ahead leaves the old byte fetchable (R80, D14). -/
theorem test_prefetch : after (step
    { withRegs 0 0x103 0 0 0 0 with
      mem := [(0x100, 0x68#8), (0x101, 0x98#8), (0x102, 0x0A#8), (0x103, 0x09#8)] })
    (fun t => t.stale == [(0x103, 0x09#8)]) = true := by decide +kernel

/-- BRA to the next address refetches; BRN there goes on in straight flow (R400 (e), R543). -/
theorem test_prefetch_taken : after (step
    { start with mem := [(0x100, 0x40#8), (0x101, 0#8)], stale := [(0x102, 9#8)] })
    (fun t => t.pc == 0x102#24 && t.stale == []) = true := by decide +kernel

theorem test_prefetch_not_taken : after (step
    { start with mem := [(0x100, 0x41#8), (0x101, 0#8)], stale := [(0x102, 9#8)] })
    (fun t => t.pc == 0x102#24 && t.stale == [(0x102, 9#8)]) = true := by decide +kernel

/-- A memory write keeps one entry per address, in order (log 5). -/
theorem test_memory_canonical : Memory.insert [(1, 0x11#8), (3, 0x33#8)] 3 0x44#8 = [(1, 0x11#8), (3, 0x44#8)] := by decide

/-! ### Execution states (R545, R546, R547) -/

/-- The manual's example BSET #0,@FFFFC7:8: 14 states (95 E3). -/
theorem test_states_bset : (instrCycles (.bsetImmAbs8 0 0xC7) .advanced 0).states 4 4 4 3 6 1 = 14 := by decide
/-- The manual's example JSR @@30: 24 states (95 E4). -/
theorem test_states_jsr : (instrCycles (.jsrMemInd 0x30) .advanced 0).states 4 4 4 3 6 1 = 24 := by decide
/-- EEPMOV: 8 + 4n states on chip (R470). -/
theorem test_states_eepmov : (instrCycles .eepmovB .advanced 5).onChipStates = 28 := by decide
/-- SI and SL of those examples (R545, R546). -/
theorem test_cycle_states : cycleStates .instructionFetch .external16ThreeState 1 = some 4 ∧
    cycleStates .byteDataAccess .peripheral8 0 = some 3 := by decide

/-! ### Witnesses for the hypotheses of the obligations -/

/-- A next state, from a test. -/
theorem next_of_after {o : Host.Outcome State Fault Refusal} {p : State → Bool} (h : after o p = true) :
    ∃ t, o = .next t ∧ p t = true := by
  cases o with
  | next t => exact ⟨t, rfl, h⟩
  | fault f => cases h
  | refused r => cases h

/-- `start` with ADD.L ER1,ER2 at PC. -/
def withCode : State := { start with mem := [(0x100, 0x0A#8), (0x101, 0x92#8)] }

/-- A request of the LSI that is masked while I = 1. -/
def irq : Request := ⟨false, 0x40, false, false⟩

/-- An NMI. -/
def nmi : Request := ⟨true, 0x1C, false, true⟩

theorem witness_DecodeOfEncodeIsTheInstruction :
    (Instr.movWLoadPostInc 6 (.r 0)).wellFormed = true ∧ (Instr.popW (.e 7)).wellFormed = true := by decide

theorem witness_DecodedWordsAreTheEncoding : decode [0x0A92, 0xFFFF] = .instr (.addLReg 1 2) ∧
    decode [0x6D70] = .instr (.popW (.r 0)) := by decide +kernel

theorem witness_ProperPrefixesAreIncomplete : (Instr.ldcWLoadDisp24 1 2).wellFormed = true ∧
    4 < (encode (.ldcWLoadDisp24 1 2)).length := by decide +kernel

theorem start_undisturbed : Undisturbed start := ⟨rfl, rfl, rfl, rfl⟩

theorem readableWord_of_memMap_nil (s : State) (h : s.memMap = []) (a : Addr) : ReadableWord s a :=
  ⟨.inl (by simp [State.accessKind, h]), .inl (by simp [State.accessKind, h])⟩

theorem withCode_code : CodeAt withCode withCode.pc (encode (.addLReg 1 2)) :=
  ⟨readableWord_of_memMap_nil _ rfl _, by decide +kernel, trivial⟩

/-- Nothing pending. -/
theorem witness_StepRunsTheInstructionAtPc : (Instr.addLReg 1 2).wellFormed = true ∧ Undisturbed withCode ∧
    withCode.proc = .programExecution ∧ withCode.stale = [] ∧ withCode.nmiDue = none ∧ (∀ r ∈ withCode.pending, Masked withCode r) ∧
    CodeAt withCode withCode.pc (encode (.addLReg 1 2)) :=
  ⟨rfl, ⟨rfl, rfl, rfl, rfl⟩, rfl, rfl, rfl, fun _ h => (List.not_mem_nil h).elim, withCode_code⟩

/-- An NMI pending at an inhibited boundary, and a masked request at another. -/
theorem witness_StepRunsTheInstructionAtPc_pending :
    ({ withCode with inhibitInt := true, pending := [nmi] } : State).inhibitInt = true ∧
      Masked { withCode with ccr := 0x80, pending := [irq] } irq :=
  ⟨rfl, rfl, by decide, .inl rfl⟩

/-- A code undefined at its first word, and one undefined at its second. -/
theorem witness_UndefinedCodeIsRefused : (decode [0x5471] = .undefinedCode ∧ Undisturbed start ∧
      CodeAt { start with mem := [(0x100, 0x54#8), (0x101, 0x71#8)] } 0x100 [0x5471]) ∧
    decode [0x7C10, 0x7080] = .undefinedCode ∧ decode [0x7C10] = .incomplete ∧
      CodeAt { start with mem := [(0x100, 0x7C#8), (0x101, 0x10#8), (0x102, 0x70#8), (0x103, 0x80#8)] } 0x100
        [0x7C10, 0x7080] :=
  ⟨⟨by decide +kernel, start_undisturbed, readableWord_of_memMap_nil _ rfl _, by decide +kernel, trivial⟩,
    by decide +kernel, by decide +kernel, readableWord_of_memMap_nil _ rfl _, by decide +kernel,
    readableWord_of_memMap_nil _ rfl _, by decide +kernel, trivial⟩

/-- Whether a fetch answers this instruction. -/
def fetches (f : Fetched) (i : Instr) : Bool :=
  match f with
  | .instr j _ => decide (j = i)
  | .undefinedCode => false

theorem instr_of_fetches {f : Fetched} {i : Instr} (h : fetches f i = true) : ∃ s, f = .instr i s := by
  cases f with
  | instr j s => exact ⟨s, by rw [of_decide_eq_true h]⟩
  | undefinedCode => cases h

/-- BRA to the next address, whose old byte may still be fetched; conditions on the flags; a call and no call. -/
theorem witness_TakenTransfersRefetch :
    (∃ s1, ({ start with
        mem := [(0x100, 0x40#8), (0x101, 0#8)], stale := [(0x102, 9#8)], inhibitInt := false } : State).fetchInstr =
      .instr (.braD8 0) s1) ∧
    TakesTransfer (.braD8 0) start ∧ TakesTransfer (.bgtD16 0) start ∧ TakesTransfer (.bltD8 0) { start with ccr := 0x02 } ∧
    TakesTransfer (.blsD8 0) { start with ccr := 0x01 } ∧ PushesLast (.bsrD8 0) ∧ ¬PushesLast (.braD8 0) := by
  refine ⟨instr_of_fetches (by decide +kernel), trivial, ⟨by decide, by decide⟩, ?_, .inl (by decide), .inl ⟨0, rfl⟩, ?_⟩
  · show ¬_ = _
    decide
  · rintro (⟨_, h⟩ | ⟨_, h⟩ | ⟨_, h⟩ | ⟨_, h⟩) <;> cases h

/-- A state in which every part of the invariant says something: an odd number of listed bytes, a stale byte at PC, normal
mode, PC at the end of the address space. -/
def busy : State :=
  { start with
    mode := .normal
    pc := 0xFFFE
    mem := [(0, 0x12#8), (0xFFFE, 0#8), (0xFFFF, 0#8)]
    stale := [(0, 0x34#8)]
    env := [⟨false, false, false, [], [[(5, 1#8)]], some [irq], none, some true⟩]
    ccr := 0x80 }

theorem busy_inv : busy.Inv where
  memCanonical := by decide
  pcEven := by decide
  pcInMode := by decide
  staleInWindow := by
    intro x hx
    refine ⟨0, by decide, ?_⟩
    simp only [busy, List.mem_singleton] at hx
    subst hx
    rfl

theorem busy_steps : after (step busy) (fun t => t.pc == 0#24) = true := by decide +kernel

theorem witness_EachStepTakesOneInput : ∃ t, step busy = .next t := (next_of_after busy_steps).imp fun _ h => h.1

theorem witness_StepKeepsTheInvariant : busy.Inv ∧ ∃ t, step busy = .next t :=
  ⟨busy_inv, witness_EachStepTakesOneInput⟩

theorem witness_StepKeepsTheParameters : ∃ t, step busy = .next t := witness_EachStepTakesOneInput

/-- A byte in ROM, which a store goes to. -/
def romStore : State :=
  { start with
    memMap := [⟨0x1000, 0x1000, .onChipMemory, false, true, 0⟩, ⟨0x2000, 0x10, .absent, false, false, 0⟩]
    mem := [(0x100, 0x6A#8), (0x101, 0x88#8), (0x102, 0x10#8), (0x103, 0x00#8)] }

theorem witness_OnlyRamChanges : (∃ t, step romStore = .next t) ∧ romStore.accessKind 0x1000 ≠ .memory ∧
    romStore.accessKind 0x1FFF ≠ .memory ∧ romStore.accessKind 0x2000 ≠ .memory :=
  ⟨(next_of_after (p := fun t => t.pc == 0x104#24) (by decide +kernel)).imp fun _ h => h.1, by decide, by decide, by decide⟩

theorem witness_NormalModeStaysInItsAddressSpace : busy.mode = .normal ∧ (∃ t, step busy = .next t) ∧
    2 ^ 16 ≤ (0x10000#24).toNat :=
  ⟨rfl, witness_EachStepTakesOneInput, by decide⟩

theorem witness_InstructionsWriteOnlyTheirFlags : (∃ t, exec (.addBImm 1 (.l 0)) start = .next t) ∧
    Flag.i ∉ flagsWritten (.addBImm 1 (.l 0)) :=
  ⟨⟨_, rfl⟩, by decide⟩

/-- What the reads of memory ask for: no interference, and RAM or ROM. -/
theorem witness_reads : Quiet start ∧ Readable start 0x200000 ∧ ReadableWord start 0xFFFFFF ∧
    ReadableWord { start with memMap := [⟨0, 0x2000, .onChipMemory, false, true, 0⟩] } 0x1001 :=
  ⟨rfl, .inl rfl, readableWord_of_memMap_nil _ rfl _, .inr rfl, .inr rfl⟩

/-- A destination outside the pointer and one inside it. -/
theorem witness_PostIncrementLoadsAndPops : (Reg8.l 0).whole ≠ 1#3 ∧ (Reg8.h 1).whole = 1#3 ∧ (Reg16.e 7).whole = 7#3 := by
  decide

theorem witness_EClockTransfers : start.hasEClock = true ∧ ({ start with hasEClock := false } : State).hasEClock = false :=
  ⟨rfl, rfl⟩

/-- The largest quotient that fits, and the first that does not. -/
theorem witness_UnsignedDivisions : (2 : Nat) ≠ 0 ∧
    ((withRegs 2 0x1FF 0 0 0 0).reg16 (.r 1)).toNat / ((withRegs 2 0x1FF 0 0 0 0).reg8 (.l 0)).toNat < 2 ^ 8 ∧
    ¬((withRegs 2 0x200 0 0 0 0).reg16 (.r 1)).toNat / ((withRegs 2 0x200 0 0 0 0).reg8 (.l 0)).toNat < 2 ^ 8 ∧
    ((withRegs 2 0x1FFFF 0 0 0 0).er 1).toNat / ((withRegs 2 0x1FFFF 0 0 0 0).reg16 (.r 0)).toNat < 2 ^ 16 := by decide

/-- The most negative quotient that fits: -256 / 2 = -128, and -65536 / 2. -/
theorem witness_SignedDivisions :
    ((withRegs 2 0xFF00 0 0 0 0).reg8 (.l 0)).toInt ≠ 0 ∧
    -2 ^ 7 ≤ ((withRegs 2 0xFF00 0 0 0 0).reg16 (.r 1)).toInt.tdiv ((withRegs 2 0xFF00 0 0 0 0).reg8 (.l 0)).toInt ∧
    ((withRegs 2 0xFF00 0 0 0 0).reg16 (.r 1)).toInt.tdiv ((withRegs 2 0xFF00 0 0 0 0).reg8 (.l 0)).toInt < 2 ^ 7 ∧
    -2 ^ 15 ≤ ((withRegs 2 0xFFFF0000 0 0 0 0).er 1).toInt.tdiv ((withRegs 2 0xFFFF0000 0 0 0 0).reg16 (.r 0)).toInt ∧
    ((withRegs 2 0xFFFF0000 0 0 0 0).er 1).toInt.tdiv ((withRegs 2 0xFFFF0000 0 0 0 0).reg16 (.r 0)).toInt < 2 ^ 15 := by
  decide

/-- A row of each table, and operands in none. -/
theorem witness_DecimalAdjustmentsFollowTheirTables :
    (decimalRow daaTable false false 0x9A#8).isSome = true ∧ (decimalRow dasTable true true 0xF9#8).isSome = true ∧
    decimalRow daaTable false true 0x05#8 = none := by decide

theorem witness_DecimalAdditionIsCorrect :
    IsBcd ((withRegs 0x99 0 0 0 0 0).reg8 (.l 0)) ∧ IsBcd 0x99#8 ∧ IsBcd ((withRegs 0x99 0 0 0 0 0).reg8 (.h 0)) := by
  unfold IsBcd
  decide

theorem witness_DecimalSubtractionIsCorrect : IsBcd ((withRegs 0x1299 0 0 0 0 0).reg8 (.h 0)) ∧
    IsBcd ((withRegs 0x1299 0 0 0 0 0).reg8 (.l 0)) ∧ IsBcd 0x99#8 := by
  unfold IsBcd
  decide

/-- The byte a bit instruction changes, in RAM. -/
theorem witness_BitWritesChangeOneBit : (0xFFFFC7#24) = start.am (eaAbs8 0xC7) ∧ start.accessKind 0xFFFFC7 = .memory := by
  decide

theorem witness_CallThenReturnComesBack : start.pc.getLsbD 0 = false ∧ Quiet start ∧ start.memMap = [] ∧
    (∃ d, Instr.bsrD8 0x10 = .bsrD8 d) ∧ ∃ abs, Instr.jsrMemInd 0x30 = .jsrMemInd abs :=
  ⟨rfl, rfl, rfl, ⟨_, rfl⟩, _, rfl⟩

theorem witness_TrapThenReturnComesBack : start.pc.getLsbD 0 = false ∧ Quiet start ∧ start.memMap = [] := ⟨rfl, rfl, rfl⟩

/-- Block transfers: nothing to transfer, all of R4, and an NMI that ends the transfer. -/
theorem witness_BlockTransfers : Quiet start ∧ start.memMap = [] ∧ start.eepmovCount = 0 ∧
    (withRegs 0 0 0xFFFF 0 0 0).eepmovCount = 0xFFFF ∧
    ({ withRegs 0 0 4 0 0 0 with pending := [irq, nmi] } : State).eepmovCount = 1 ∧
    ({ withRegs 0 0 4 0 0 0 with lateNmi := some (2, nmi) } : State).eepmovCount = 2 ∧
    ({ withRegs 0 0 4 0 0 0 with lateNmi := some (4, nmi) } : State).eepmovDue = some nmi ∧
    ({ withRegs 0 0 4 0 0 0 with lateNmi := some (5, nmi) } : State).eepmovDue = none := by
  refine ⟨rfl, rfl, ?_, ?_, ?_, ?_, ?_, ?_⟩ <;> decide +kernel

/-- An NMI behind another request is foremost. -/
theorem witness_AcceptedInterruptIsTaken_nmi : Undisturbed start ∧ start.proc = .programExecution ∧
    start.nmiDue = none ∧ start.inhibitInt = false ∧ Foremost { start with pending := [irq, nmi, irq] } [irq] nmi [irq] ∧
    start.vectorAllowed nmi.vector = true :=
  ⟨start_undisturbed, rfl, rfl, rfl, ⟨rfl, .inl ⟨rfl, by decide⟩⟩, by decide +kernel⟩

/-- An NMI that is due while the schedule withdraws every request. -/
theorem witness_AcceptedInterruptIsTaken_due :
    let s : State :=
      { start with nmiDue := some nmi, pending := [nmi], env := [⟨false, false, false, [], [], some [], none, none⟩] }
    s.proc = .programExecution ∧ s.nmiDue = some nmi ∧ s.sample.1.stbyLow = false ∧ s.sample.1.resLow = false ∧
      s.sample.1.busReq = false ∧ s.sample.1.pending = [] ∧ s.vectorAllowed nmi.vector = true :=
  ⟨rfl, rfl, rfl, rfl, rfl, rfl, by decide +kernel⟩

/-- A request that passes the mask, behind one that does not. -/
theorem witness_AcceptedInterruptIsTaken_masked :
    Foremost { start with ccr := 0x80, uiIsMask := true, pending := [irq, { irq with passesI := true }] } [irq]
      { irq with passesI := true } [] := by
  refine ⟨rfl, .inr ⟨by decide, ?_, ?_⟩⟩
  · intro q hq
    rw [List.mem_singleton] at hq
    subst hq
    exact ⟨rfl, by decide, .inr (.inr rfl)⟩
  · rintro ⟨-, -, h⟩
    rcases h with h | h | h
    · exact absurd h (by decide)
    · exact absurd h (by decide)
    · exact absurd h (by decide)

/-- The first and the last vector of each kind in advanced mode. -/
theorem witness_AcceptedInterruptIsTaken_vectors : start.vectorAllowed 0x0C = true ∧ start.vectorAllowed 0x08 = false ∧
    start.vectorAllowed 0x1C = true ∧ start.vectorAllowed 0x20 = false ∧ start.vectorAllowed 0x2C = false ∧
    start.vectorAllowed 0x30 = true ∧ start.vectorAllowed 0x41 = false := by decide +kernel

theorem witness_SleepLastsUntilAnAcceptedRequest : Undisturbed { start with proc := .sleep } ∧
    (∀ r ∈ start.pending, Masked start r) ∧
    Masked { start with proc := .sleep, ccr := 0x80, pending := [irq] } irq ∧
    irq.wakesStandby = false ∧ Foremost { start with proc := .sleep, pending := [irq] } [] irq [] ∧
    ({ start with proc := .sleep, pending := [irq] } : State).vectorAllowed irq.vector = true :=
  ⟨⟨rfl, rfl, rfl, rfl⟩, fun _ h => (List.not_mem_nil h).elim, ⟨rfl, by decide, .inl rfl⟩, rfl,
    ⟨rfl, .inr ⟨by decide, fun _ h => (List.not_mem_nil h).elim, fun h => absurd h.2.1 (by decide)⟩⟩, by decide +kernel⟩

/-- Software standby: a request that may not wake the CPU, and behind it an NMI that may. -/
theorem witness_SleepLastsUntilAnAcceptedRequest_standby :
    Undisturbed { start with proc := .softwareStandby } ∧
    (∀ r ∈ [irq], KeepsStandby { start with proc := .softwareStandby, pending := [irq] } r) ∧
    Awakening { start with proc := .softwareStandby, pending := [irq, nmi] } [irq] nmi [] ∧
    ({ start with proc := .softwareStandby, pending := [irq, nmi] } : State).vectorAllowed nmi.vector = true := by
  refine ⟨⟨rfl, rfl, rfl, rfl⟩, ?_, ⟨rfl, ?_, .inl ⟨rfl, ?_⟩⟩, by decide +kernel⟩
  · intro r hr
    rw [List.mem_singleton.mp hr]
    exact .inr rfl
  · rintro (h | h)
    · exact absurd h.1 (by decide)
    · exact absurd h (by decide)
  · intro q hq
    rw [List.mem_singleton.mp hq]
    exact .inl rfl

/-- With no NMI pending, the first request that is not masked and may wake the CPU does. -/
theorem witness_SleepLastsUntilAnAcceptedRequest_standby_masked :
    Awakening { start with proc := .softwareStandby, pending := [irq, { irq with wakesStandby := true }] } [irq]
      { irq with wakesStandby := true } [] := by
  refine ⟨rfl, ?_, .inr ⟨?_, ?_⟩⟩
  · rintro (h | h)
    · exact absurd h.2.1 (by decide)
    · exact absurd h (by decide)
  · intro q hq
    refine .inl ?_
    simp only [List.mem_cons, List.not_mem_nil, or_false] at hq
    rcases hq with rfl | rfl <;> rfl
  · intro q hq
    rw [List.mem_singleton.mp hq]
    exact .inr rfl

theorem witness_ResetLoadsTheVector : Undisturbed { start with proc := .reset } ∧
    ({ start with proc := .reset } : State).proc = .reset := ⟨⟨rfl, rfl, rfl, rfl⟩, rfl⟩

/-- Both pins low falls under the first clause only; RES low alone; the end of hardware standby. -/
theorem witness_PinsOverrideEverything : ({ start with stbyLow := true, resLow := true } : State).stbyLow = true ∧
    (start.stbyLow = false ∧ ({ start with resLow := true } : State).resLow = true) ∧
    (start.stbyLow = false ∧ start.resLow = false ∧ ({ start with proc := .hardwareStandby } : State).proc = .hardwareStandby) :=
  ⟨rfl, ⟨rfl, rfl⟩, rfl, rfl, rfl⟩

/-- A bus request with one write of another master, more of the schedule behind it; its end; and the level already high with
nothing scheduled. -/
theorem witness_BusReleaseChangesNoCpuState :
    (∃ k ks, ({ start with env := [⟨false, false, true, [(0x2000, 0x55#8)], [], some [nmi], none, none⟩,
        ⟨false, false, false, [], [], none, none, none⟩] } : State).env = k :: ks ∧ ks ≠ [] ∧ k.resLow = false ∧
      k.stbyLow = false ∧ k.busReq = true ∧ k.busWrites = [(0x2000, 0x55#8)]) ∧ start.proc = .programExecution ∧
    ({ start with proc := .busReleased, env := [⟨false, false, false, [], [], none, none, none⟩] } : State).proc =
      .busReleased ∧
    (({ start with busReq := true } : State).env = [] ∧ start.resLow = false ∧ start.stbyLow = false) :=
  ⟨⟨_, _, rfl, by decide, rfl, rfl, rfl, rfl⟩, rfl, rfl, rfl, rfl, rfl⟩

end

end Sys2Proof.Tests
end

section
/-! What a whole step keeps: the invariant (R27 to R30, R80, D5 to D7) and, in normal mode, every byte at or above
H'010000 (R42, R66). `Kept` of Laws/Keeps.lean says what the shared operations keep; here it is carried through the end of an
instruction, where PC is written, through `exec`, through the fetch and the prefetch, and through the step. -/

namespace Sys2Proof.Machine

set_option Elab.async false

/-! ### A valid PC -/

/-- The clauses of the invariant about PC: even, and within the address space of the mode (R28, R30, R42). -/
structure State.PcValid (s : State) : Prop where
  even : s.pc.getLsbD 0 = false
  inMode : s.mode = .normal → s.pc.toNat < 2 ^ 16

/-- The clause of the invariant about the prefetch (log 18). -/
def State.StaleInWindow (s : State) : Prop := ∀ x ∈ s.stale, ∃ a ∈ s.prefetchWindow s.pc, a.toNat = x.1

theorem State.inv_iff (s : State) : s.Inv ↔ Memory.wf s.mem ∧ s.PcValid ∧ s.StaleInWindow :=
  ⟨fun h => ⟨h.memCanonical, ⟨h.pcEven, h.pcInMode⟩, h.staleInWindow⟩,
    fun ⟨hm, hp, hs⟩ => ⟨hm, hp.even, hp.inMode, hs⟩⟩

theorem getLsbD_zero_eq_false_iff (a : Addr) : a.getLsbD 0 = false ↔ a.toNat % 2 = 0 := by
  simp [BitVec.getLsbD, Nat.testBit_zero]

theorem State.PcValid.congr {s t : State} (h : s.PcValid) (hm : t.mode = s.mode) (hp : t.pc = s.pc) : t.PcValid :=
  ⟨hp ▸ h.even, fun hn => hp ▸ h.inMode (hm ▸ hn)⟩

theorem State.StaleInWindow.congr {s t : State} (h : s.StaleInWindow) (hm : t.mode = s.mode) (hp : t.pc = s.pc)
    (hs : t.stale = s.stale) : t.StaleInWindow := by
  unfold State.StaleInWindow State.prefetchWindow State.am
  rw [hm, hp, hs]
  exact h

theorem State.StaleInWindow.of_nil {s : State} (h : s.stale = []) : s.StaleInWindow := by
  simp [State.StaleInWindow, h]

/-- Loading PC makes it valid whatever the address is (D6, D7). -/
theorem State.setPc_pcValid (s : State) (a : Addr) : (s.setPc a).PcValid where
  even := evenAddr_getLsbD_zero _
  inMode hn := by
    have ha := s.am_lt_of_normal a hn
    rw [State.setPc_pc, evenAddr_toNat]
    omega

/-- The address of the next instruction, even bytes on, is valid (R27, D5). -/
theorem State.PcValid.advance {s : State} (h : s.PcValid) {len : Addr} (hlen : len.getLsbD 0 = false) :
    (s.advance len).PcValid where
  even := by
    have hpc := (getLsbD_zero_eq_false_iff _).1 h.even
    have hl := (getLsbD_zero_eq_false_iff _).1 hlen
    rw [getLsbD_zero_eq_false_iff, State.advance_pc, State.nextPc, State.am_toNat, BitVec.toNat_add]
    cases s.mode <;> dsimp only <;> omega
  inMode hn := s.am_lt_of_normal _ hn

/-! ### How an instruction ends -/

/-- What an instruction or the taking of an exception keeps: what every shared operation keeps, and a valid PC. -/
structure KeptValidPc (s t : State) : Prop where
  kept : Kept s t
  pc : s.PcValid → t.PcValid

theorem KeptAtPc.validPc {s t : State} (h : KeptAtPc s t) : KeptValidPc s t :=
  ⟨h.k, fun hp => hp.congr h.k.mode h.pc⟩

/-- A change that touches neither memory nor the parameters, and leaves the prefetch or empties it. -/
theorem Kept.of_rest {s t : State} (hstale : t.stale = s.stale ∨ t.stale = []) (hmem : t.mem = s.mem := by rfl)
    (hmode : t.mode = s.mode := by rfl) (hui : t.uiIsMask = s.uiIsMask := by rfl)
    (hec : t.hasEClock = s.hasEClock := by rfl) (hmm : t.memMap = s.memMap := by rfl) : Kept s t :=
  ⟨hmode, hui, hec, hmm, fun w => hmem ▸ w, fun a _ => State.peek_eq_of_mem hmem a, hstale⟩

/-- The same, of a change that leaves PC too. -/
theorem KeptAtPc.of_rest {s t : State} (hstale : t.stale = s.stale ∨ t.stale = []) (hmem : t.mem = s.mem := by rfl)
    (hpc : t.pc = s.pc := by rfl) (hmode : t.mode = s.mode := by rfl) (hui : t.uiIsMask = s.uiIsMask := by rfl)
    (hec : t.hasEClock = s.hasEClock := by rfl) (hmm : t.memMap = s.memMap := by rfl) : KeptAtPc s t :=
  ⟨.of_rest hstale hmem hmode hui hec hmm, hpc⟩

theorem State.advance_kept (s : State) (len : Addr) : Kept s (s.advance len) :=
  .of_rest (.inl rfl)

theorem State.setPc_kept (s : State) (a : Addr) : Kept s (s.setPc a) :=
  .of_rest (.inl rfl)

/-- SLEEP moves PC on and leaves program execution. -/
theorem State.advance_sleep_keptValidPc (s : State) (p : ProcState) : KeptValidPc s { s.advance 2 with proc := p } where
  kept := (s.advance_kept 2).trans (.of_rest (.inl rfl))
  pc hp := (hp.advance (len := 2) rfl).congr rfl rfl

/-- A branch through a vector that empties the prefetch: the end of reset and exception handling. -/
theorem KeptAtPc.enter {s u : State} (h : KeptAtPc s u) (a : Addr) (p : ProcState) (b : Bool) :
    KeptValidPc s { u.setPc a with proc := p, inhibitInt := b, stale := [] } where
  kept := h.k.trans (.of_rest (.inr rfl))
  pc _ := (u.setPc_pcValid a).congr rfl rfl

theorem State.maskInterrupts_kept (s : State) : KeptAtPc s s.maskInterrupts :=
  .of s.maskInterrupts_frame s.maskInterrupts_mem

theorem State.exceptionEntry_keptValidPc (s : State) (ret vec : Addr) : KeptValidPc s (s.exceptionEntry ret vec) :=
  KeptAtPc.enter (((s.excPush_kept ret s.ccr).trans (State.maskInterrupts_kept _)).trans (State.branchAddress_kept _ vec))
    _ _ _

theorem State.freeRegisters_kept (s : State) : KeptAtPc s s.freeRegisters :=
  (s.freeEr_kept 0#3).trans <| (State.freeEr_kept _ 1#3).trans <| (State.freeEr_kept _ 2#3).trans <|
    (State.freeEr_kept _ 3#3).trans <| (State.freeEr_kept _ 4#3).trans <| (State.freeEr_kept _ 5#3).trans <|
    (State.freeEr_kept _ 6#3).trans (State.freeEr_kept _ 7#3)

theorem State.resetEntry_keptValidPc (s : State) : KeptValidPc s s.resetEntry :=
  KeptAtPc.enter (s.freeRegisters_kept.trans <| (State.drawByte_kept _).trans <| (State.setCcr_kept _ _).trans <|
    (State.setFlag_kept _ .i true).trans (State.branchAddress_kept _ 0#24)) _ _ _

/-! ### What `exec` keeps -/

/-- If the outcome is a next state, `p` holds of it. -/
def IfNext (o : Host.Outcome State Fault Refusal) (p : State → Prop) : Prop := ∀ t, o = .next t → p t

theorem IfNext.next {p : State → Prop} {t : State} (h : p t) : IfNext (.next t) p := by
  rintro _ ⟨rfl⟩
  exact h

theorem IfNext.fault {p : State → Prop} {f : Fault} : IfNext (.fault f) p := by
  rintro _ ⟨⟩

theorem IfNext.refused {p : State → Prop} {r : Refusal} : IfNext (.refused r) p := by
  rintro _ ⟨⟩

theorem IfNext.mono {o : Host.Outcome State Fault Refusal} {p q : State → Prop} (h : IfNext o p)
    (hpq : ∀ t, p t → q t) : IfNext o q := fun t ht => hpq t (h t ht)

theorem IfNext.ite {c : Prop} [Decidable c] {o o' : Host.Outcome State Fault Refusal} {p : State → Prop}
    (h : IfNext o p) (h' : IfNext o' p) : IfNext (if c then o else o') p := by
  split <;> assumption

/-- The end of an instruction that does not transfer control. -/
theorem IfNext.advance {s u : State} {len : Addr} (h : KeptAtPc s u) (hlen : len.getLsbD 0 = false) :
    IfNext (.next (u.advance len)) (KeptValidPc s) :=
  .next ⟨h.k.trans (u.advance_kept len), fun hp => (h.validPc.pc hp).advance hlen⟩

/-- The end of a jump, a call or a return. -/
theorem IfNext.setPc {s u : State} (h : KeptAtPc s u) (a : Addr) : IfNext (.next (u.setPc a)) (KeptValidPc s) :=
  .next ⟨h.k.trans (u.setPc_kept a), fun _ => u.setPc_pcValid a⟩

theorem IfNext.branchIf {w : Nat} (s : State) (cc : BitVec 4) {len : Addr} (hlen : len.getLsbD 0 = false)
    (disp : BitVec w) : IfNext (.next (s.branchIf cc len disp)) (KeptValidPc s) := by
  unfold State.branchIf
  split
  · exact .setPc (.refl s) _
  · exact .advance (.refl s) hlen

theorem State.setReg8_setCcr_kept (s : State) (rd : Reg8) (x c : Byte) : KeptAtPc s ((s.setReg8 rd x).setCcr c) :=
  (s.setReg8_kept rd x).trans (State.setCcr_kept _ c)

theorem State.setReg16_setCcr_kept (s : State) (rd : Reg16) (x : Word) (c : Byte) :
    KeptAtPc s ((s.setReg16 rd x).setCcr c) :=
  (s.setReg16_kept rd x).trans (State.setCcr_kept _ c)

theorem State.setEr_setCcr_kept (s : State) (n : ERn) (x : Long) (c : Byte) : KeptAtPc s ((s.setEr n x).setCcr c) :=
  (s.setEr_kept n x).trans (State.setCcr_kept _ c)

/-- Every instruction keeps what the shared operations keep, and a valid PC. The cases are grouped by the operation the
instruction is made of, and by how it ends. -/
theorem exec_keptValidPc (i : Instr) (s : State) : IfNext (exec i s) (KeptValidPc s) := by
  cases i with
  -- Loads and stores at an effective address.
  | movBLoadInd | movBLoadDisp16 | movBLoadDisp24 | movBLoadAbs8 | movBLoadAbs16 | movBLoadAbs24 =>
    exact .advance (s.loadInto8_kept _ _) rfl
  | movBStoreInd | movBStoreDisp16 | movBStoreDisp24 | movBStoreAbs8 | movBStoreAbs16 | movBStoreAbs24 =>
    exact .advance (s.storeFrom8_kept _ _) rfl
  | movWLoadInd | movWLoadDisp16 | movWLoadDisp24 | movWLoadAbs16 | movWLoadAbs24 =>
    exact .advance (s.loadInto16_kept _ _) rfl
  | movWStoreInd | movWStoreDisp16 | movWStoreDisp24 | movWStoreAbs16 | movWStoreAbs24 =>
    exact .advance (s.storeFrom16_kept _ _) rfl
  | movLLoadInd | movLLoadDisp16 | movLLoadDisp24 | movLLoadAbs16 | movLLoadAbs24 =>
    exact .advance (s.loadInto32_kept _ _) rfl
  | movLStoreInd | movLStoreDisp16 | movLStoreDisp24 | movLStoreAbs16 | movLStoreAbs24 =>
    exact .advance (s.storeFrom32_kept _ _) rfl
  -- Post-increment and pre-decrement, POP and PUSH.
  | movBLoadPostInc => exact .advance (s.loadPostInc8_kept _ _) rfl
  | movWLoadPostInc | popW => exact .advance (s.loadPostInc16_kept _ _) rfl
  | movLLoadPostInc | popL => exact .advance (s.loadPostInc32_kept _ _) rfl
  | movBStorePreDec => exact .advance (s.storePreDec8_kept _ _) rfl
  | movWStorePreDec | pushW => exact .advance (s.storePreDec16_kept _ _) rfl
  | movLStorePreDec | pushL => exact .advance (s.storePreDec32_kept _ _) rfl
  -- The E clock transfers: refused where there is no E clock (D16).
  | movfpe => exact .ite (.advance (s.loadInto8_kept _ _) rfl) .refused
  | movtpe => exact .ite (.advance (s.storeFrom8_kept _ _) rfl) .refused
  -- Results that can be free: division and decimal adjustment.
  | divxsBReg | divxuBReg => exact .advance ((s.setCcr_kept _).trans (State.divInto16_kept _ _ _)) rfl
  | divxsWReg | divxuWReg => exact .advance ((s.setCcr_kept _).trans (State.divInto32_kept _ _ _)) rfl
  | daa | das => exact .advance (s.decimal_kept _ _ _) rfl
  -- Flags alone, or a register alone.
  | cmpBImm | cmpBReg | cmpWImm | cmpWReg | cmpLImm | cmpLReg => exact .advance (s.setCcr_kept _) rfl
  | mulxuBReg => exact .advance (s.setReg16_kept _ _) rfl
  | adds1 | adds2 | adds4 | mulxuWReg | subs1 | subs2 | subs4 => exact .advance (s.setEr_kept _ _) rfl
  -- Bit operands in a register and in memory.
  | bsetImmReg | bsetRegReg | bclrImmReg | bclrRegReg | bnotImmReg | bnotRegReg | bstImmReg | bistImmReg
  | stcBReg =>
    exact .advance (s.setReg8_kept _ _) rfl
  | bsetImmInd | bsetImmAbs8 | bsetRegInd | bsetRegAbs8 | bclrImmInd | bclrImmAbs8 | bclrRegInd | bclrRegAbs8
  | bnotImmInd | bnotImmAbs8 | bnotRegInd | bnotRegAbs8 | bstImmInd | bstImmAbs8 | bistImmInd | bistImmAbs8 =>
    exact .advance (s.modifyMem_kept _ _) rfl
  | btstImmInd | btstImmAbs8 | btstRegInd | btstRegAbs8 => exact .advance (s.testBitMem_kept _ _) rfl
  | bandImmInd | bandImmAbs8 | biandImmInd | biandImmAbs8 | borImmInd | borImmAbs8 | biorImmInd | biorImmAbs8
  | bxorImmInd | bxorImmAbs8 | bixorImmInd | bixorImmAbs8 | bldImmInd | bldImmAbs8 | bildImmInd | bildImmAbs8 =>
    exact .advance (s.carryBitMem_kept _ _ _) rfl
  | btstImmReg | btstRegReg | bandImmReg | biandImmReg | borImmReg | biorImmReg | bxorImmReg | bixorImmReg
  | bldImmReg | bildImmReg =>
    exact .advance (s.setFlag_kept _ _) rfl
  -- A register and CCR, by the width of the register.
  | movBImm | movBReg | addBImm | addBReg | addxImm | addxReg | decB | incB | negB | subBReg | subxImm
  | subxReg | andBImm | andBReg | orBImm | orBReg | xorBImm | xorBReg | notB | shalB | sharB | shllB | shlrB
  | rotlB | rotrB | rotxlB | rotxrB =>
    exact .advance (s.setReg8_setCcr_kept _ _ _) rfl
  | movWImm | movWReg | addWImm | addWReg | decW1 | decW2 | extsW | extuW | incW1 | incW2 | mulxsBReg | negW
  | subWImm | subWReg | andWImm | andWReg | orWImm | orWReg | xorWImm | xorWReg | notW | shalW | sharW | shllW
  | shlrW | rotlW | rotrW | rotxlW | rotxrW =>
    exact .advance (s.setReg16_setCcr_kept _ _ _) rfl
  | movLImm | movLReg | addLImm | addLReg | decL1 | decL2 | extsL | extuL | incL1 | incL2 | mulxsWReg | negL
  | subLImm | subLReg | andLImm | andLReg | orLImm | orLReg | xorLImm | xorLReg | notL | shalL | sharL | shllL
  | shlrL | rotlL | rotrL | rotxlL | rotxrL =>
    exact .advance (s.setEr_setCcr_kept _ _ _) rfl
  -- Branches, jumps, calls and returns.
  | braD8 | brnD8 | bhiD8 | blsD8 | bccD8 | bcsD8 | bneD8 | beqD8 | bvcD8 | bvsD8 | bplD8 | bmiD8 | bgeD8
  | bltD8 | bgtD8 | bleD8 | braD16 | brnD16 | bhiD16 | blsD16 | bccD16 | bcsD16 | bneD16 | beqD16 | bvcD16
  | bvsD16 | bplD16 | bmiD16 | bgeD16 | bltD16 | bgtD16 | bleD16 =>
    exact .branchIf s _ rfl _
  | jmpInd | jmpAbs24 => exact .setPc (.refl s) _
  | jmpMemInd => exact .setPc (s.branchAddress_kept _) _
  | bsrD8 | bsrD16 | jsrInd | jsrAbs24 => exact .setPc (s.subPush_kept _) _
  | jsrMemInd => exact .setPc ((s.branchAddress_kept _).trans (State.subPush_kept _ _)) _
  | rts => exact .setPc s.subPop_kept _
  -- System control.
  | trapa => exact .next (s.exceptionEntry_keptValidPc _ _)
  | rte => exact .setPc (s.excPop_kept.trans (State.setCcr_kept _ _)) _
  | sleep => exact .next (s.advance_sleep_keptValidPc _)
  | ldcBImm | ldcBReg | andc | orc | xorc => exact .advance (s.loadCcr_kept _) rfl
  | ldcWLoadInd | ldcWLoadDisp16 | ldcWLoadDisp24 | ldcWLoadAbs16 | ldcWLoadAbs24 =>
    exact .advance (s.ldcW_kept _) rfl
  | ldcWLoadPostInc => exact .advance ((s.ldcW_kept _).trans (State.setEr_kept _ _ _)) rfl
  | stcWStoreInd | stcWStoreDisp16 | stcWStoreDisp24 | stcWStoreAbs16 | stcWStoreAbs24 =>
    exact .advance (s.stcW_kept _) rfl
  | stcWStorePreDec => exact .advance ((s.setEr_kept _ _).trans (State.stcW_kept _ _)) rfl
  | nop => exact .advance (.refl s) rfl
  -- Block transfer.
  | eepmovB => exact .advance s.eepmovB_kept rfl
  | eepmovW => exact .advance s.eepmovW_kept rfl

/-! ### Fetching -/

theorem State.fetchByte_kept (s : State) (a : Addr) : KeptAtPc s (s.fetchByte a).2 := by
  unfold State.fetchByte
  dsimp only
  split
  · exact s.readPhys_kept a
  · exact (s.readPhys_kept a).trans (State.draw_kept _)

theorem State.fetchWord_kept (s : State) (a : Addr) : KeptAtPc s (s.fetchWord a).2 :=
  (s.fetchByte_kept _).trans (State.fetchByte_kept _ _)

theorem State.fetchFrom_kept (fuel : Nat) (s : State) (a : Addr) (ws : List Word) {i : Instr} {t : State}
    (h : s.fetchFrom a ws fuel = .instr i t) : KeptAtPc s t := by
  induction fuel generalizing s a ws with
  | zero => cases h
  | succ fuel ih =>
    have hw := s.fetchWord_kept a
    unfold State.fetchFrom at h
    dsimp only at h
    split at h
    · cases h
      exact hw
    · exact hw.trans (ih _ _ _ h)
    · cases h

theorem State.fetchInstr_kept {s t : State} {i : Instr} (h : s.fetchInstr = .instr i t) : KeptAtPc s t :=
  State.fetchFrom_kept 5 s s.pc [] h

/-! ### The prefetch -/

theorem mem_window_of_mem_changedAhead {s t : State} {x : Host.Cell} (h : x ∈ changedAhead s t) :
    ∃ a ∈ t.prefetchWindow t.pc, a.toNat = x.1 := by
  simp only [changedAhead, List.mem_map, List.mem_filter] at h
  obtain ⟨a, ⟨ha, -⟩, rfl⟩ := h
  exact ⟨a, ha, rfl⟩

theorem mem_window_of_mem_staleAhead {s : State} {x : Host.Cell} (h : x ∈ s.staleAhead) :
    ∃ a ∈ s.prefetchWindow s.pc, a.toNat = x.1 := by
  simp only [State.staleAhead, List.mem_filter, List.any_eq_true, beq_iff_eq] at h
  obtain ⟨-, a, ha, hx⟩ := h
  exact ⟨a, ha, hx.symm⟩

/-- An instruction leaves no stale byte but those that were ahead and those it changed ahead. -/
theorem mem_stale_prefetchAfter {i : Instr} {s t : State} {x : Host.Cell} (h : x ∈ (prefetchAfter i s t).stale) :
    x ∈ changedAhead s t ∨ x ∈ t.staleAhead := by
  simp only [prefetchAfter, List.mem_append, List.mem_ite_nil_left, List.mem_ite_nil_right] at h
  obtain ⟨-, -, hx⟩ | ⟨-, hx⟩ := h
  · exact .inl hx
  · exact .inr hx

theorem prefetchAfter_staleInWindow (i : Instr) (s t : State) : (prefetchAfter i s t).StaleInWindow := by
  intro x hx
  obtain hc | ha := mem_stale_prefetchAfter hx
  · exact mem_window_of_mem_changedAhead hc
  · exact mem_window_of_mem_staleAhead (s := t) ha

/-! ### What a step keeps -/

/-- What a whole step keeps: apart from the prefetch what every shared operation keeps, a valid PC, and the place of the
stale bytes. A step may make bytes stale, so `Kept` is said of the state with the prefetch emptied. -/
structure StepKept (s t : State) : Prop where
  kept : Kept s { t with stale := [] }
  pc : s.PcValid → t.PcValid
  stale : s.StaleInWindow → t.StaleInWindow

theorem Kept.emptied {s t : State} (h : Kept s t) : Kept s { t with stale := [] } :=
  h.trans (.of_rest (.inr rfl))

theorem StepKept.trans {s t u : State} (h : StepKept s t) (k : StepKept t u) : StepKept s u where
  kept := h.kept.trans ⟨k.kept.mode, k.kept.ui, k.kept.ec, k.kept.mm, k.kept.wf, k.kept.peek, .inr rfl⟩
  pc := k.pc ∘ h.pc
  stale := k.stale ∘ h.stale

theorem KeptAtPc.stepKept {s t : State} (h : KeptAtPc s t) : StepKept s t where
  kept := h.k.emptied
  pc := h.validPc.pc
  stale hs := by
    obtain he | he := h.k.stale
    · exact hs.congr h.k.mode h.pc he
    · exact .of_nil he

theorem KeptValidPc.stepKept {s t : State} (h : KeptValidPc s t) (he : t.stale = []) : StepKept s t :=
  ⟨h.kept.emptied, h.pc, fun _ => .of_nil he⟩

theorem KeptValidPc.prefetchAfter {s t : State} (h : KeptValidPc s t) (i : Instr) : StepKept s (prefetchAfter i s t) where
  kept := h.kept.trans (.of_rest (.inr rfl))
  pc hp := (h.pc hp).congr rfl rfl
  stale _ := prefetchAfter_staleInWindow i s t

theorem State.settle_kept (s : State) : KeptAtPc s s.settle := .of_rest (.inl rfl)

theorem State.sample_kept (s : State) : KeptAtPc s s.sample.1 := by
  unfold State.sample
  split
  · exact .refl s
  · exact .of_rest (.inl rfl)

theorem State.enterReset_kept (s : State) : KeptAtPc s s.enterReset := .of_rest (.inr rfl)

theorem State.enterHardwareStandby_kept (s : State) : KeptAtPc s s.enterHardwareStandby :=
  .of_rest (.inr rfl)

theorem State.acknowledge_kept (s : State) (r : Request) : KeptAtPc s (s.acknowledge r) :=
  .of_rest (.inl rfl)

/-- While the bus is released PC stays, so old and new stale bytes lie in the same window. -/
theorem State.releaseBus_stepKept (s : State) (ws : List Host.Cell) : StepKept s (s.releaseBus ws) := by
  have hw := State.masterWrites_kept ws s
  refine hw.stepKept.trans ⟨.of_rest (.inr rfl), fun hp => hp.congr rfl rfl,
    fun hs x hx => ?_⟩
  obtain hx | hx := List.mem_append.1 hx
  · exact mem_window_of_mem_changedAhead hx
  · exact hs x hx

theorem State.interruptEntry_stepKept (s : State) (r : Request) : IfNext (s.interruptEntry r) (StepKept s) := by
  have hentry : StepKept s (s.exceptionEntry s.pc r.vector) := (s.exceptionEntry_keptValidPc _ _).stepKept rfl
  exact .ite (.next (hentry.trans (State.acknowledge_kept _ r).stepKept)) .refused

/-- Fetch, decode and execute (R509). -/
theorem State.runInstr_stepKept (s : State) : IfNext s.runInstr (StepKept s) := by
  unfold State.runInstr
  split
  · exact .refused
  · next i s1 hf =>
    have hx := exec_keptValidPc i s1
    split
    · next t ht => exact .next ((State.fetchInstr_kept hf).stepKept.trans ((hx t ht).prefetchAfter i))
    · exact .fault
    · exact .refused

theorem State.runProgram_stepKept (s : State) : IfNext s.runProgram (StepKept s) := by
  have hinhibit : KeptAtPc s { s with inhibitInt := false } := .of_rest (.inl rfl)
  unfold State.runProgram
  split
  · exact s.interruptEntry_stepKept _
  · split
    · exact (State.runInstr_stepKept _).mono fun _ => hinhibit.stepKept.trans
    · split
      · exact s.interruptEntry_stepKept _
      · exact s.runInstr_stepKept

theorem State.runPowerDown_stepKept (s : State) : IfNext s.runPowerDown (StepKept s) := by
  unfold State.runPowerDown
  split
  · exact s.interruptEntry_stepKept _
  · exact .next (KeptAtPc.refl s).stepKept

/-- The step on sampled inputs, by the pins and then by the processing state (R480, R509). -/
theorem State.react_stepKept (s : State) (ws : List Host.Cell) : IfNext (s.react ws) (StepKept s) := by
  have hrefl : StepKept s s := (KeptAtPc.refl s).stepKept
  have hreset : StepKept s s.enterReset := s.enterReset_kept.stepKept
  have hresume : KeptAtPc s { s with proc := .programExecution } := .of_rest (.inl rfl)
  unfold State.react
  refine .ite (.next s.enterHardwareStandby_kept.stepKept) (.ite (.next ?_) (.ite (.next hreset) ?_))
  · split
    · exact hreset
    · exact hrefl
  · cases s.proc with
    | hardwareStandby => exact .next hrefl
    | reset => exact .next (s.resetEntry_keptValidPc.stepKept rfl)
    | sleep => exact s.runPowerDown_stepKept
    | softwareStandby => exact s.runPowerDown_stepKept
    | busReleased =>
      refine .next ?_
      split
      · exact s.releaseBus_stepKept ws
      · exact hresume.stepKept
    | programExecution => exact .ite (.next (s.releaseBus_stepKept ws)) s.runProgram_stepKept

/-- Every step, whatever the environment does (R509). -/
theorem step_stepKept {s t : State} (h : step s = .next t) : StepKept s t := by
  unfold step State.cycle at h
  have hreact := State.react_stepKept s.sample.1 s.sample.2
  split at h
  · next u hu =>
    cases h
    exact s.sample_kept.stepKept.trans ((hreact u hu).trans u.settle_kept.stepKept)
  · cases h
  · cases h

/-! ### The obligations -/

/-- Settles O10: the three parts of the invariant are among what a step keeps. -/
theorem stepKeepsTheInvariant : Obligations.StepKeepsTheInvariant := by
  unfold Obligations.StepKeepsTheInvariant
  intro s t hinv hstep
  have h := step_stepKept hstep
  obtain ⟨hmem, hpc, hstale⟩ := s.inv_iff.1 hinv
  exact t.inv_iff.2 ⟨h.kept.wf hmem, h.pc hpc, h.stale hstale⟩

/-- Settles O13: a byte outside the address space of normal mode is among what a step keeps. -/
theorem normalModeStaysInItsAddressSpace : Obligations.NormalModeStaysInItsAddressSpace := by
  unfold Obligations.NormalModeStaysInItsAddressSpace
  intro s t a hmode hstep ha
  exact (step_stepKept hstep).kept.peek a (.inr ⟨hmode, ha⟩)

end Sys2Proof.Machine
end

section
/-! Arithmetic (42_arithmetic.md): ADD, ADDX, ADDS, SUB, SUBX, SUBS, NEG, EXTS, EXTU, MULXU, MULXS, DIVXU and DIVXS. First
what the value functions give in the words of the obligations, then how an instruction that ends in a shared operation answers,
then the obligations. -/

namespace Sys2Proof.Machine

/-! ### Results of `Add` and `Sub` in the words of R38 -/

/-- The value and the flags of an addition or a subtraction; Z is taken together with `z`, which is the old Z for ADDX and
SUBX and `true` otherwise. -/
structure AluResult.Gives {w : Nat} (x : AluResult w) (z : Bool) (v : BitVec w) (fl : List (Flag × Bool)) : Prop where
  value : x.value = v
  flags : fl = [(.h, x.h), (.n, x.n), (.z, z && x.z), (.v, x.v), (.c, x.c)]

/-- `Add` gives the sum with the carry coming in, and the flags of R38. -/
theorem aluAdd_carry_gives {m : Nat} (hm : 4 ≤ m) (a b : BitVec (m + 1)) (c z : Bool) :
    (aluAdd a b c).Gives z (a + b + if c then 1 else 0) (addFlags m b a (a + b + if c then 1 else 0) z) where
  value := aluAdd_value a b c
  flags := by
    rw [← addFlags_eq hm, aluAdd_value]
    rfl

/-- `Sub` gives the difference less the borrow coming in, and the flags of R38. -/
theorem aluSub_borrow_gives {m : Nat} (hm : 4 ≤ m) (a b : BitVec (m + 1)) (c z : Bool) :
    (aluSub a b c).Gives z (a - b - if c then 1 else 0) (subFlags m b a (a - b - if c then 1 else 0) z) where
  value := aluSub_value a b c
  flags := by
    rw [← subFlags_eq hm, aluSub_value]
    rfl

theorem aluAdd_gives {m : Nat} (hm : 4 ≤ m) (a b : BitVec (m + 1)) :
    (aluAdd a b false).Gives true (a + b) (addFlags m b a (a + b) true) := by
  simpa using aluAdd_carry_gives hm a b false true

theorem aluSub_gives {m : Nat} (hm : 4 ≤ m) (a b : BitVec (m + 1)) :
    (aluSub a b false).Gives true (a - b) (subFlags m b a (a - b) true) := by
  simpa using aluSub_borrow_gives hm a b false true

/-- The equations of NEG are those of SUB with the destination 0 (R274). -/
theorem subFlags_zero {w : Nat} (m : Nat) (d r : BitVec w) : subFlags m d 0#w r true = negFlags m d r := by
  have carry : ∀ x y : Bool, ((x && !false) || (!false && y) || (x && y)) = (x || y) := by decide
  have overflow : ∀ x y : Bool, ((!x && false && !y) || (x && !false && y)) = (x && y) := by decide
  simp only [subFlags, negFlags, BitVec.getLsbD_zero, carry, overflow, Bool.true_and]

theorem aluSub_zero_gives {m : Nat} (hm : 4 ≤ m) (d : BitVec (m + 1)) :
    (aluSub 0#(m + 1) d false).Gives true (-d) (negFlags m d (-d)) := by
  simpa [subFlags_zero] using aluSub_gives hm 0#(m + 1) d

/-! ### Address adjustments -/

theorem add_ofNat_eq_ofNat {w : Nat} (x : BitVec w) (k : Nat) :
    x + BitVec.ofNat w k = BitVec.ofNat w (x.toNat + k) := by
  rw [BitVec.ofNat_add, BitVec.ofNat_toNat, BitVec.setWidth_eq]

theorem sub_ofNat_eq_ofInt {w : Nat} (x : BitVec w) (k : Nat) :
    x - BitVec.ofNat w k = BitVec.ofInt w (x.toInt - k) := by
  rw [Int.sub_eq_add_neg, BitVec.ofInt_add, BitVec.ofInt_toInt, BitVec.ofInt_neg, BitVec.ofInt_natCast,
    BitVec.sub_eq_add_neg]

/-! ### Divisions whose quotient may not fit -/

theorem decide_toInt_eq_zero {w : Nat} (v : BitVec w) : decide (v = 0#w) = decide (v.toInt = 0) := by
  rw [decide_eq_decide, ← BitVec.toInt_zero (w := w), BitVec.toInt_inj]

/-- Of a destination that holds what `divUnsigned` gives, if anything: it is divided exactly where the quotient fits, and it
holds some value always (R260, D17; log 8). -/
theorem divUnsigned_outcome {m w : Nat} {d : BitVec m} {b : BitVec w} {F : BitVec (w + w) → Prop}
    (h : ∃ v, F v ∧ ∀ r q, divUnsigned d b = some (r, q) → v = r ++ q) :
    (b.toNat ≠ 0 → d.toNat / b.toNat < 2 ^ w → ∃ r q : BitVec w,
      d.toNat = q.toNat * b.toNat + r.toNat ∧ r.toNat < b.toNat ∧ F (r ++ q)) ∧ ∃ v, F v := by
  obtain ⟨v, hF, hv⟩ := h
  refine ⟨fun hb hfit => ?_, v, hF⟩
  obtain ⟨r, q, hdiv, hsum, hlt⟩ := divUnsigned_spec d b hb hfit
  exact ⟨r, q, hsum, hlt, hv r q hdiv ▸ hF⟩

/-- The same of `divSigned` (R257, D17; log 8). -/
theorem divSigned_outcome {m w : Nat} (hw : 0 < w) {d : BitVec m} {b : BitVec w} {F : BitVec (w + w) → Prop}
    (h : ∃ v, F v ∧ ∀ r q, divSigned d b = some (r, q) → v = r ++ q) :
    (b.toInt ≠ 0 → -2 ^ (w - 1) ≤ d.toInt.tdiv b.toInt → d.toInt.tdiv b.toInt < 2 ^ (w - 1) → ∃ r q : BitVec w,
      d.toInt = q.toInt * b.toInt + r.toInt ∧ |r.toInt| < |b.toInt| ∧ (0 ≤ d.toInt → 0 ≤ r.toInt) ∧
        (d.toInt ≤ 0 → r.toInt ≤ 0) ∧ F (r ++ q)) ∧ ∃ v, F v := by
  obtain ⟨v, hF, hv⟩ := h
  refine ⟨fun hb hmin hmax => ?_, v, hF⟩
  obtain ⟨r, q, hdiv, hsum, hlt, hpos, hneg⟩ := divSigned_spec hw d b hb hmin hmax
  exact ⟨r, q, hsum, hlt, hpos, hneg, hv r q hdiv ▸ hF⟩

/-! ### Signed products in a register -/

/-- A 16-bit register is written, N and Z are of the value written (R270). -/
theorem State.setReg16_setNZ_effect (s : State) (rd : Reg16) (p : Word) :
    RegisterEffect s ((s.setReg16 rd p).setNZ p.msb (decide (p = 0#16))) (fun t => OnlyWord s t rd p)
      [(.n, decide (p.toInt < 0)), (.z, decide (p.toNat = 0))] := by
  rw [← BitVec.msb_eq_toInt, ← decide_eq_zero]
  exact .word (.nz (by simp))

/-- A 32-bit register is written, N and Z are of the value written (R271). -/
theorem State.setEr_setNZ_effect (s : State) (d : ERn) (p : Long) :
    RegisterEffect s ((s.setEr d p).setNZ p.msb (decide (p = 0#32))) (fun t => OnlyLong s t d p)
      [(.n, decide (p.toInt < 0)), (.z, decide (p.toNat = 0))] := by
  rw [← BitVec.msb_eq_toInt, ← decide_eq_zero]
  exact .long (.nz (by simp))

/-! ### Instructions that end in a shared operation -/

section Forms

variable {i : Instr} {s : State} {k : Addr}

theorem RegisterForm.alu8 {rd : Reg8} {x : AluResult 8} {v : Byte} {fl : List (Flag × Bool)}
    (he : exec i s = .next ((s.alu8 rd x).advance k)) (hk : k = BitVec.ofNat 24 i.length) (hx : x.Gives true v fl) :
    RegisterForm i s (fun t => OnlyByte s t rd v) fl := by
  obtain ⟨rfl, rfl⟩ := hx
  exact .of_effect he hk (s.alu8_effect rd x)

theorem RegisterForm.aluX8 {rd : Reg8} {x : AluResult 8} {v : Byte} {fl : List (Flag × Bool)}
    (he : exec i s = .next ((s.aluX8 rd x).advance k)) (hk : k = BitVec.ofNat 24 i.length)
    (hx : x.Gives (s.flag .z) v fl) : RegisterForm i s (fun t => OnlyByte s t rd v) fl := by
  obtain ⟨rfl, rfl⟩ := hx
  exact .of_effect he hk (s.aluX8_effect rd x)

theorem RegisterForm.alu16 {rd : Reg16} {x : AluResult 16} {v : Word} {fl : List (Flag × Bool)}
    (he : exec i s = .next ((s.alu16 rd x).advance k)) (hk : k = BitVec.ofNat 24 i.length) (hx : x.Gives true v fl) :
    RegisterForm i s (fun t => OnlyWord s t rd v) fl := by
  obtain ⟨rfl, rfl⟩ := hx
  exact .of_effect he hk (s.alu16_effect rd x)

theorem RegisterForm.alu32 {d : ERn} {x : AluResult 32} {v : Long} {fl : List (Flag × Bool)}
    (he : exec i s = .next ((s.alu32 d x).advance k)) (hk : k = BitVec.ofNat 24 i.length) (hx : x.Gives true v fl) :
    RegisterForm i s (fun t => OnlyLong s t d v) fl := by
  obtain ⟨rfl, rfl⟩ := hx
  exact .of_effect he hk (s.alu32_effect d x)

theorem RegisterForm.long {d : ERn} {x v : Long} (he : exec i s = .next ((s.setEr d x).advance k))
    (hk : k = BitVec.ofNat 24 i.length) (hx : x = v) : RegisterForm i s (fun t => OnlyLong s t d v) [] := by
  subst hx
  exact .of_effect he hk (.longOnly s d x)

/-- A word-by-byte division: some value in the destination, and remainder and quotient where the division gives them. -/
theorem RegisterForm.divInto16 {rd : Reg16} {n z : Bool} {x : Option (Byte × Byte)} {fl : List (Flag × Bool)}
    (he : exec i s = .next (((s.setNZ n z).divInto16 rd x).advance k)) (hk : k = BitVec.ofNat 24 i.length)
    (hfl : fl = [(.n, n), (.z, z)]) :
    ∃ v, RegisterForm i s (fun t => OnlyWord s t rd v) fl ∧ ∀ r q, x = some (r, q) → v = r ++ q := by
  subst hfl
  obtain ⟨v, heff, hv⟩ := s.divInto16_effect rd n z x
  exact ⟨v, .of_effect he hk heff, hv⟩

/-- The same of a longword-by-word division. -/
theorem RegisterForm.divInto32 {d : ERn} {n z : Bool} {x : Option (Word × Word)} {fl : List (Flag × Bool)}
    (he : exec i s = .next (((s.setNZ n z).divInto32 d x).advance k)) (hk : k = BitVec.ofNat 24 i.length)
    (hfl : fl = [(.n, n), (.z, z)]) :
    ∃ v, RegisterForm i s (fun t => OnlyLong s t d v) fl ∧ ∀ r q, x = some (r, q) → v = r ++ q := by
  subst hfl
  obtain ⟨v, heff, hv⟩ := s.divInto32_effect d n z x
  exact ⟨v, .of_effect he hk heff, hv⟩

end Forms

/-! ### The obligations -/

/-- Settles O25: each form ends in an ALU operation, and `Add` gives the sum with the equations of R38. -/
theorem additionsAndTheirFlags : Obligations.AdditionsAndTheirFlags := by
  unfold Obligations.AdditionsAndTheirFlags
  intro s
  exact ⟨fun imm rd => .alu8 rfl rfl (aluAdd_gives (by decide) _ _),
    fun rs rd => .alu8 rfl rfl (aluAdd_gives (by decide) _ _),
    fun imm rd => .alu16 rfl rfl (aluAdd_gives (by decide) _ _),
    fun rs rd => .alu16 rfl rfl (aluAdd_gives (by decide) _ _),
    fun imm rd => .alu32 rfl rfl (aluAdd_gives (by decide) _ _),
    fun rs rd => .alu32 rfl rfl (aluAdd_gives (by decide) _ _),
    fun imm rd => .aluX8 rfl rfl (aluAdd_carry_gives (by decide) _ _ _ _),
    fun rs rd => .aluX8 rfl rfl (aluAdd_carry_gives (by decide) _ _ _ _)⟩

/-- Settles O26: as O25, by what `Sub` gives. -/
theorem subtractionsAndTheirFlags : Obligations.SubtractionsAndTheirFlags := by
  unfold Obligations.SubtractionsAndTheirFlags
  intro s
  exact ⟨fun rs rd => .alu8 rfl rfl (aluSub_gives (by decide) _ _),
    fun imm rd => .alu16 rfl rfl (aluSub_gives (by decide) _ _),
    fun rs rd => .alu16 rfl rfl (aluSub_gives (by decide) _ _),
    fun imm rd => .alu32 rfl rfl (aluSub_gives (by decide) _ _),
    fun rs rd => .alu32 rfl rfl (aluSub_gives (by decide) _ _),
    fun imm rd => .aluX8 rfl rfl (aluSub_borrow_gives (by decide) _ _ _ _),
    fun rs rd => .aluX8 rfl rfl (aluSub_borrow_gives (by decide) _ _ _ _)⟩

/-- Settles O30: NEG is `Sub` from 0, so its equations are those of SUB there. -/
theorem negationsAndTheirFlags : Obligations.NegationsAndTheirFlags := by
  unfold Obligations.NegationsAndTheirFlags
  intro s
  exact ⟨fun rd => .alu8 rfl rfl (aluSub_zero_gives (by decide) _),
    fun rd => .alu16 rfl rfl (aluSub_zero_gives (by decide) _),
    fun rd => .alu32 rfl rfl (aluSub_zero_gives (by decide) _)⟩

/-- Settles O28: the sum is that of the unsigned value, the difference that of the signed value, and CCR is not
written. -/
theorem addressAdjustmentsKeepAllFlags : Obligations.AddressAdjustmentsKeepAllFlags := by
  unfold Obligations.AddressAdjustmentsKeepAllFlags
  intro s d
  exact ⟨.long rfl rfl (add_ofNat_eq_ofNat _ 1), .long rfl rfl (add_ofNat_eq_ofNat _ 2),
    .long rfl rfl (add_ofNat_eq_ofNat _ 4),
    .long rfl rfl (sub_ofNat_eq_ofInt _ 1), .long rfl rfl (sub_ofNat_eq_ofInt _ 2),
    .long rfl rfl (sub_ofNat_eq_ofInt _ 4)⟩

/-- Settles O31: sign extension keeps the signed value of the lower half and zero extension the unsigned one. -/
theorem extensionsKeepTheValue : Obligations.ExtensionsKeepTheValue := by
  unfold Obligations.ExtensionsKeepTheValue
  intro s
  refine ⟨fun rd => ⟨_, ?_, .of_effect rfl rfl (.word (.logic rfl))⟩,
    fun d => ⟨_, ?_, .of_effect rfl rfl (.long (.logic rfl))⟩,
    fun rd => ⟨_, ?_, .of_effect rfl rfl (.word (.extu rfl))⟩,
    fun d => ⟨_, ?_, .of_effect rfl rfl (.long (.extu rfl))⟩⟩
  · exact BitVec.toInt_signExtend_of_le (by decide)
  · exact BitVec.toInt_signExtend_of_le (by decide)
  · rw [BitVec.toNat_setWidth_of_le (by decide), BitVec.toNat_setWidth]
  · rw [BitVec.toNat_setWidth_of_le (by decide), BitVec.toNat_setWidth]

/-- Settles O32: the destination is twice as wide as the operands, so the product is exact. -/
theorem productsAreExact : Obligations.ProductsAreExact := by
  unfold Obligations.ProductsAreExact
  intro s
  refine ⟨fun rs rd => ⟨_, ?_, .of_effect rfl rfl (.wordOnly s rd _)⟩,
    fun rs d => ⟨_, ?_, .of_effect rfl rfl (.longOnly s d _)⟩,
    fun rs rd => ⟨_, ?_, .of_effect rfl rfl (s.setReg16_setNZ_effect rd _)⟩,
    fun rs d => ⟨_, ?_, .of_effect rfl rfl (s.setEr_setNZ_effect d _)⟩⟩
  · rw [mulUnsigned_toNat (by decide), BitVec.toNat_setWidth]
  · rw [mulUnsigned_toNat (by decide), BitVec.toNat_setWidth]
  · exact mulSigned_toInt (by decide) (by decide) _ _
  · exact mulSigned_toInt (by decide) (by decide) _ _

/-- Settles O33: the destination holds what `divUnsigned` gives where the quotient fits, and a free value elsewhere. -/
theorem unsignedDivisions : Obligations.UnsignedDivisions := by
  unfold Obligations.UnsignedDivisions
  intro s
  refine ⟨fun rs rd => ?_, fun rs d => ?_⟩
  · refine divUnsigned_outcome (w := 8) (RegisterForm.divInto16 rfl rfl ?_)
    rw [BitVec.msb_eq_getLsbD_last, decide_eq_zero]
  · refine divUnsigned_outcome (w := 16) (RegisterForm.divInto32 rfl rfl ?_)
    rw [BitVec.msb_eq_getLsbD_last, decide_eq_zero]

/-- Settles O34: the same by `divSigned`; N is whether the top bits of divisor and dividend differ. -/
theorem signedDivisions : Obligations.SignedDivisions := by
  unfold Obligations.SignedDivisions
  intro s
  refine ⟨fun rs rd => ?_, fun rs d => ?_⟩
  · refine divSigned_outcome (w := 8) (by decide) (RegisterForm.divInto16 rfl rfl ?_)
    rw [BitVec.msb_eq_getLsbD_last, BitVec.msb_eq_getLsbD_last, decide_toInt_eq_zero]
  · refine divSigned_outcome (w := 16) (by decide) (RegisterForm.divInto32 rfl rfl ?_)
    rw [BitVec.msb_eq_getLsbD_last, BitVec.msb_eq_getLsbD_last, decide_toInt_eq_zero]

end Sys2Proof.Machine
end

section
/-! Logic and shifts (43_logic_shift.md): AND, OR, XOR, NOT and the eight shifts and rotates. First the row of the table of
R322 each value function follows, then how an instruction that ends in a shared operation answers, then the obligations. -/

namespace Sys2Proof.Machine

/-! ### The rows of the table of R322 -/

/-- `P` holds of the shifted value, `c` is the bit shifted out and `v` the overflow flag. -/
structure ShiftResult.Gives {w : Nat} (x : ShiftResult w) (P : BitVec w → Prop) (c v : Bool) : Prop where
  value : P x.value
  carry : x.c = c
  overflow : x.v = v

/-- The bit shifted out on the left is the top bit. -/
theorem ShiftResult.Gives.left {w : Nat} {d r : BitVec w} {b v : Bool} (h : MovedLeft d r b) :
    (ShiftResult.mk r d.msb v).Gives (MovedLeft d · b) (d.getLsbD (w - 1)) v :=
  ⟨h, BitVec.msb_eq_getLsbD_last d, rfl⟩

/-- The bit shifted out on the right is bit 0, and V is cleared. -/
theorem ShiftResult.Gives.right {w : Nat} {d r : BitVec w} {b : Bool} (h : MovedRight d r b) :
    (ShiftResult.mk r (d.getLsbD 0) false).Gives (MovedRight d · b) (d.getLsbD 0) false :=
  ⟨h, rfl, rfl⟩

section Rows

variable {w : Nat} (d : BitVec w)

theorem shiftShal_gives : (shiftShal d).Gives (MovedLeft d · false) (d.getLsbD (w - 1))
    (d.getLsbD (w - 1) != d.getLsbD (w - 2)) := by
  rw [← BitVec.msb_eq_getLsbD_last]
  exact ⟨movedLeft_shiftLeft d, rfl, rfl⟩

theorem shiftShll_gives : (shiftShll d).Gives (MovedLeft d · false) (d.getLsbD (w - 1)) false :=
  .left (movedLeft_shiftLeft d)

theorem shiftRotl_gives : (shiftRotl d).Gives (MovedLeft d · (d.getLsbD (w - 1))) (d.getLsbD (w - 1)) false := by
  rw [← BitVec.msb_eq_getLsbD_last]
  exact ⟨movedLeft_or_bitAt d d.msb, rfl, rfl⟩

theorem shiftRotxl_gives (cin : Bool) : (shiftRotxl cin d).Gives (MovedLeft d · cin) (d.getLsbD (w - 1)) false :=
  .left (movedLeft_or_bitAt d cin)

theorem shiftShar_gives : (shiftShar d).Gives (MovedRight d · (d.getLsbD (w - 1))) (d.getLsbD 0) false := by
  rw [← BitVec.msb_eq_getLsbD_last]
  exact .right (movedRight_sshiftRight d)

theorem shiftShlr_gives : (shiftShlr d).Gives (MovedRight d · false) (d.getLsbD 0) false :=
  .right (movedRight_ushiftRight d)

theorem shiftRotr_gives : (shiftRotr d).Gives (MovedRight d · (d.getLsbD 0)) (d.getLsbD 0) false :=
  .right (movedRight_or_bitAt d _)

theorem shiftRotxr_gives (cin : Bool) : (shiftRotxr cin d).Gives (MovedRight d · cin) (d.getLsbD 0) false :=
  .right (movedRight_or_bitAt d cin)

end Rows

/-! ### Instructions that end in a shared operation -/

section Forms

variable {i : Instr} {s : State} {k : Addr}

theorem RegisterForm.logic8 {rd : Reg8} {r : Byte} (he : exec i s = .next ((s.logic8 rd r).advance k))
    (hk : k = BitVec.ofNat 24 i.length) : RegisterForm i s (fun t => OnlyByte s t rd r) (testFlags r) :=
  .of_effect he hk (s.logic8_effect rd r)

theorem RegisterForm.logic16 {rd : Reg16} {r : Word} (he : exec i s = .next ((s.logic16 rd r).advance k))
    (hk : k = BitVec.ofNat 24 i.length) : RegisterForm i s (fun t => OnlyWord s t rd r) (testFlags r) :=
  .of_effect he hk (s.logic16_effect rd r)

theorem RegisterForm.logic32 {d : ERn} {r : Long} (he : exec i s = .next ((s.logic32 d r).advance k))
    (hk : k = BitVec.ofNat 24 i.length) : RegisterForm i s (fun t => OnlyLong s t d r) (testFlags r) :=
  .of_effect he hk (s.logic32_effect d r)

variable {c v : Bool}

theorem RegisterForm.shift8 {rd : Reg8} {x : ShiftResult 8} {P : Byte → Prop}
    (he : exec i s = .next ((s.shift8 rd x).advance k)) (hk : k = BitVec.ofNat 24 i.length) (hx : x.Gives P c v) :
    ∃ r, P r ∧ RegisterForm i s (fun t => OnlyByte s t rd r) (shiftFlags r c v) := by
  obtain ⟨hP, rfl, rfl⟩ := hx
  exact ⟨x.value, hP, .of_effect he hk (s.shift8_effect rd x)⟩

theorem RegisterForm.shift16 {rd : Reg16} {x : ShiftResult 16} {P : Word → Prop}
    (he : exec i s = .next ((s.shift16 rd x).advance k)) (hk : k = BitVec.ofNat 24 i.length) (hx : x.Gives P c v) :
    ∃ r, P r ∧ RegisterForm i s (fun t => OnlyWord s t rd r) (shiftFlags r c v) := by
  obtain ⟨hP, rfl, rfl⟩ := hx
  exact ⟨x.value, hP, .of_effect he hk (s.shift16_effect rd x)⟩

theorem RegisterForm.shift32 {d : ERn} {x : ShiftResult 32} {P : Long → Prop}
    (he : exec i s = .next ((s.shift32 d x).advance k)) (hk : k = BitVec.ofNat 24 i.length) (hx : x.Gives P c v) :
    ∃ r, P r ∧ RegisterForm i s (fun t => OnlyLong s t d r) (shiftFlags r c v) := by
  obtain ⟨hP, rfl, rfl⟩ := hx
  exact ⟨x.value, hP, .of_effect he hk (s.shift32_effect d x)⟩

end Forms

/-- The three sizes of one shift or rotate instruction: each writes what `f` makes of its register, and goes on to the next
instruction. -/
structure ExecutesShift (byte : Reg8 → Instr) (word : Reg16 → Instr) (long : ERn → Instr) (s : State)
    (f : (w : Nat) → BitVec w → ShiftResult w) : Prop where
  byte : ∀ rd, exec (byte rd) s = .next ((s.shift8 rd (f 8 (s.reg8 rd))).advance (BitVec.ofNat 24 (byte rd).length))
  word : ∀ rd, exec (word rd) s = .next ((s.shift16 rd (f 16 (s.reg16 rd))).advance (BitVec.ofNat 24 (word rd).length))
  long : ∀ d, exec (long d) s = .next ((s.shift32 d (f 32 (s.er d))).advance (BitVec.ofNat 24 (long d).length))

section Shifts

variable {byte : Reg8 → Instr} {word : Reg16 → Instr} {long : ERn → Instr} {s : State}
  {f : (w : Nat) → BitVec w → ShiftResult w}

theorem ExecutesShift.leftShifts {b v : Bool → Bool → Bool} (h : ExecutesShift byte word long s f)
    (hf : ∀ w (d : BitVec w), (f w d).Gives (MovedLeft d · (b (d.getLsbD (w - 1)) (s.flag .c))) (d.getLsbD (w - 1))
      (v (d.getLsbD (w - 1)) (d.getLsbD (w - 2)))) : LeftShifts byte word long s b v :=
  ⟨fun rd => RegisterForm.shift8 (h.byte rd) rfl (hf 8 _), fun rd => RegisterForm.shift16 (h.word rd) rfl (hf 16 _),
    fun d => RegisterForm.shift32 (h.long d) rfl (hf 32 _)⟩

theorem ExecutesShift.rightShifts {b : Bool → Bool → Bool → Bool} (h : ExecutesShift byte word long s f)
    (hf : ∀ w (d : BitVec w), (f w d).Gives (MovedRight d · (b (d.getLsbD (w - 1)) (d.getLsbD 0) (s.flag .c)))
      (d.getLsbD 0) false) : RightShifts byte word long s b :=
  ⟨fun rd => RegisterForm.shift8 (h.byte rd) rfl (hf 8 _), fun rd => RegisterForm.shift16 (h.word rd) rfl (hf 16 _),
    fun d => RegisterForm.shift32 (h.long d) rfl (hf 32 _)⟩

end Shifts

/-! ### The obligations -/

/-- Settles O38: every form of every size ends in the logic operation of its size. -/
theorem logicResultsAndFlags : Obligations.LogicResultsAndFlags := by
  unfold Obligations.LogicResultsAndFlags
  intro s
  -- AND, OR and XOR each: byte, word and longword, immediate and register
  exact ⟨fun _ _ => .logic8 rfl rfl, fun _ _ => .logic8 rfl rfl, fun _ _ => .logic16 rfl rfl,
    fun _ _ => .logic16 rfl rfl, fun _ _ => .logic32 rfl rfl, fun _ _ => .logic32 rfl rfl,
    fun _ _ => .logic8 rfl rfl, fun _ _ => .logic8 rfl rfl, fun _ _ => .logic16 rfl rfl,
    fun _ _ => .logic16 rfl rfl, fun _ _ => .logic32 rfl rfl, fun _ _ => .logic32 rfl rfl,
    fun _ _ => .logic8 rfl rfl, fun _ _ => .logic8 rfl rfl, fun _ _ => .logic16 rfl rfl,
    fun _ _ => .logic16 rfl rfl, fun _ _ => .logic32 rfl rfl, fun _ _ => .logic32 rfl rfl,
    -- NOT
    fun _ => .logic8 rfl rfl, fun _ => .logic16 rfl rfl, fun _ => .logic32 rfl rfl⟩

/-- Settles O39: each instruction writes what its value function gives, and that follows its row of the table of R322. -/
theorem shiftsAndRotatesByOneBit : Obligations.ShiftsAndRotatesByOneBit := by
  unfold Obligations.ShiftsAndRotatesByOneBit
  intro s
  have shal : ExecutesShift .shalB .shalW .shalL s @shiftShal := ⟨fun _ => rfl, fun _ => rfl, fun _ => rfl⟩
  have shll : ExecutesShift .shllB .shllW .shllL s @shiftShll := ⟨fun _ => rfl, fun _ => rfl, fun _ => rfl⟩
  have shar : ExecutesShift .sharB .sharW .sharL s @shiftShar := ⟨fun _ => rfl, fun _ => rfl, fun _ => rfl⟩
  have shlr : ExecutesShift .shlrB .shlrW .shlrL s @shiftShlr := ⟨fun _ => rfl, fun _ => rfl, fun _ => rfl⟩
  have rotl : ExecutesShift .rotlB .rotlW .rotlL s @shiftRotl := ⟨fun _ => rfl, fun _ => rfl, fun _ => rfl⟩
  have rotr : ExecutesShift .rotrB .rotrW .rotrL s @shiftRotr := ⟨fun _ => rfl, fun _ => rfl, fun _ => rfl⟩
  have rotxl : ExecutesShift .rotxlB .rotxlW .rotxlL s fun _ => shiftRotxl (s.flag .c) :=
    ⟨fun _ => rfl, fun _ => rfl, fun _ => rfl⟩
  have rotxr : ExecutesShift .rotxrB .rotxrW .rotxrL s fun _ => shiftRotxr (s.flag .c) :=
    ⟨fun _ => rfl, fun _ => rfl, fun _ => rfl⟩
  exact ⟨shal.leftShifts @shiftShal_gives, shll.leftShifts @shiftShll_gives, shar.rightShifts @shiftShar_gives,
    shlr.rightShifts @shiftShlr_gives, rotl.leftShifts @shiftRotl_gives, rotr.rightShifts @shiftRotr_gives,
    rotxl.leftShifts fun _ d => shiftRotxl_gives d _, rotxr.rightShifts fun _ d => shiftRotxr_gives d _⟩

end Sys2Proof.Machine
end

section
/-! Branches and calls (45_branch.md): Bcc, BSR and JSR. First the table of R401 and how a Bcc answers, then how a call
answers from the frame it pushes, then the obligations. -/

namespace Sys2Proof.Machine

/-! ### Conditional branches (R150, R401 to R403) -/

/-- The table of R401, two rows at a time: each odd code negates the condition of the even code before it. -/
theorem State.branchCond_table (s : State) :
    (branchCond 0x0#4 s.ccr = true ∧ branchCond 0x1#4 s.ccr = false) ∧
    (branchCond 0x2#4 s.ccr = !(s.flag .c || s.flag .z) ∧ branchCond 0x3#4 s.ccr = (s.flag .c || s.flag .z)) ∧
    (branchCond 0x4#4 s.ccr = !s.flag .c ∧ branchCond 0x5#4 s.ccr = s.flag .c) ∧
    (branchCond 0x6#4 s.ccr = !s.flag .z ∧ branchCond 0x7#4 s.ccr = s.flag .z) ∧
    (branchCond 0x8#4 s.ccr = !s.flag .v ∧ branchCond 0x9#4 s.ccr = s.flag .v) ∧
    (branchCond 0xA#4 s.ccr = !s.flag .n ∧ branchCond 0xB#4 s.ccr = s.flag .n) ∧
    (branchCond 0xC#4 s.ccr = !(s.flag .n ^^ s.flag .v) ∧ branchCond 0xD#4 s.ccr = (s.flag .n ^^ s.flag .v)) ∧
    (branchCond 0xE#4 s.ccr = !(s.flag .z || (s.flag .n ^^ s.flag .v)) ∧
      branchCond 0xF#4 s.ccr = (s.flag .z || (s.flag .n ^^ s.flag .v))) := by
  have row : ∀ x : Bool, ((!x) != false) = (!x) ∧ ((!x) != true) = x := by decide
  exact ⟨row false, row _, row _, row _, row _, row _, row _, row _⟩

/-- A PC-relative target may be taken from the address of the next instruction before or after it wraps (R150, D5). -/
theorem State.am_relTarget {w : Nat} (s : State) (len : Addr) (disp : BitVec w) :
    s.am (s.relTarget len disp) = s.am (s.pc + len + disp.signExtend 24) := s.am_add_am _ _

/-- The end of a branch: PC goes to the target or to the next instruction, whichever `taken` says. -/
theorem State.branchIf_eq {w : Nat} {s : State} {cc : BitVec 4} {taken : Bool} (h : branchCond cc s.ccr = taken)
    (len : Addr) (disp : BitVec w) :
    s.branchIf cc len disp =
      { s with pc := if taken then evenAddr (s.am (s.pc + len + disp.signExtend 24)) else s.am (s.pc + len) } := by
  subst h
  rw [← s.am_relTarget]
  unfold State.branchIf
  split <;> rfl

/-- An instruction that changes PC alone. -/
theorem JumpForm.of_pc {i : Instr} {s : State} {a : Addr} (he : exec i s = .next { s with pc := a }) : JumpForm i s a :=
  ⟨_, he, rfl, .of_regs rfl, .same rfl, .of_mem rfl, ⟨rfl, rfl, rfl, rfl⟩, by constructor <;> rfl⟩

theorem JumpForm.branchIf {w : Nat} {i : Instr} {s : State} {cc : BitVec 4} {len : Addr} {disp : BitVec w} {taken : Bool}
    (he : exec i s = .next (s.branchIf cc len disp)) (hc : branchCond cc s.ccr = taken) :
    JumpForm i s (if taken then evenAddr (s.am (s.pc + len + disp.signExtend 24)) else s.am (s.pc + len)) :=
  .of_pc (he.trans (congrArg _ (State.branchIf_eq hc len disp)))

/-! ### Calls (R404 to R406, R410 to R412) -/

/-- What reading memory can do: a bus cycle that stores nothing when no other master interferes. -/
structure BusRead (s t : State) : Prop where
  frame : BusFrame s t
  mem : Quiet s → t.mem = s.mem
  quiet : Quiet s → Quiet t

theorem BusRead.refl (s : State) : BusRead s s := ⟨.refl s, fun _ => rfl, id⟩

theorem State.branchAddress_busRead (s : State) (p : Addr) : BusRead s (s.branchAddress p).2 :=
  ⟨s.branchAddress_frame p, fun hq => hq.branchAddress_mem p, fun hq => hq.branchAddress p⟩

/-- Storing after a read stores the same cells as storing at once. -/
theorem StoreEffect.afterRead {s t u : State} {regs regs' : State → Prop} {fl : List (Flag × Bool)}
    {cells : List (Addr × Byte)} {free : List Addr} (h : StoreEffect t u regs fl cells free) (hb : BusRead s t)
    (hr : ∀ w, regs w → regs' w) : StoreEffect s u regs' fl cells free where
  frame := hb.frame.data.trans h.frame
  mem hq := (h.mem (hb.quiet hq)).of_peek (hb.mem hq).symm hb.frame.memMap.symm
  regs w hw := hr w (h.regs w hw)
  flags f := by rw [h.flags f, State.flag_eq, State.flag_eq, hb.frame.ccr]

theorem State.frameSize_congr {s t : State} (h : t.mode = s.mode) : t.frameSize = s.frameSize := by
  unfold State.frameSize
  rw [h]

theorem callCells_congr {s t : State} (h : t.mode = s.mode) (sp : Long) (ret : Addr) :
    callCells t sp ret = callCells s sp ret := by
  unfold callCells
  rw [h]
  cases s.mode <;> simp only [wordCells_congr h, State.wordBase_congr h]

/-- The frame pushed after the target has been read is the one pushed at once. -/
theorem State.subPush_effect_afterRead {s t : State} (hb : BusRead s t) (ret : Addr) :
    StoreEffect s (t.subPush ret) (fun u => OnlyLong s u 7#3 (s.sp - s.frameSize)) []
      (callCells s (s.sp - s.frameSize) ret).1 (callCells s (s.sp - s.frameSize) ret).2 := by
  have h := t.subPush_effect ret
  rw [State.sp_eq_of_regs hb.frame.regs, State.frameSize_congr hb.frame.mode, callCells_congr hb.frame.mode] at h
  exact h.afterRead hb fun _ hu => hu.from_regs hb.frame.regs.symm

/-- A call, its target known or read from memory before the push. `a` and `target` may differ in what the mode masks. -/
theorem CallForm.call {i : Instr} {s t : State} {k a target : Addr} (he : exec i s = .next (t.call k a))
    (hk : k = BitVec.ofNat 24 i.length) (hb : BusRead s t) (ha : s.am a = s.am target) : CallForm i s target := by
  subst hk
  have hret : t.nextPc (BitVec.ofNat 24 i.length) = s.am (s.pc + BitVec.ofNat 24 i.length) := by
    rw [State.nextPc, hb.frame.am, hb.frame.pc]
  have hp := State.subPush_effect_afterRead hb (s.am (s.pc + BitVec.ofNat 24 i.length))
  rw [State.call, hret] at he
  generalize t.subPush _ = u at he hp
  refine ⟨_, he, hp.regs _ rfl, hp.flags, ?_, hp.frame.control.trans ⟨rfl, rfl, rfl, rfl⟩,
    hp.frame.outside.trans (by constructor <;> rfl), fun hq => (hp.mem hq).of_mem rfl⟩
  have hmode := hp.frame.outside.mode
  calc evenAddr (u.am a) = evenAddr (s.am a) := by simp only [State.am, hmode]
    _ = evenAddr (s.am target) := by rw [ha]

/-! ### The obligations -/

/-- Settles O42: every Bcc ends in `branchIf`, in either size with the same row of the table of R401. -/
theorem conditionalBranches : Obligations.ConditionalBranches := by
  unfold Obligations.ConditionalBranches
  intro s d8 d16
  obtain ⟨⟨bra, brn⟩, ⟨bhi, bls⟩, ⟨bcc, bcs⟩, ⟨bne, beq⟩, ⟨bvc, bvs⟩, ⟨bpl, bmi⟩, ⟨bge, blt⟩, ⟨bgt, ble⟩⟩ :=
    s.branchCond_table
  exact ⟨.branchIf rfl bra, .branchIf rfl bra, .branchIf rfl brn, .branchIf rfl brn,
    .branchIf rfl bhi, .branchIf rfl bhi, .branchIf rfl bls, .branchIf rfl bls,
    .branchIf rfl bcc, .branchIf rfl bcc, .branchIf rfl bcs, .branchIf rfl bcs,
    .branchIf rfl bne, .branchIf rfl bne, .branchIf rfl beq, .branchIf rfl beq,
    .branchIf rfl bvc, .branchIf rfl bvc, .branchIf rfl bvs, .branchIf rfl bvs,
    .branchIf rfl bpl, .branchIf rfl bpl, .branchIf rfl bmi, .branchIf rfl bmi,
    .branchIf rfl bge, .branchIf rfl bge, .branchIf rfl blt, .branchIf rfl blt,
    .branchIf rfl bgt, .branchIf rfl bgt, .branchIf rfl ble, .branchIf rfl ble⟩

/-- Settles O44: every call ends in `State.call`; JSR @@aa:8 reads its target before it pushes the frame. -/
theorem callsPushTheReturnAddress : Obligations.CallsPushTheReturnAddress := by
  unfold Obligations.CallsPushTheReturnAddress
  intro s
  exact ⟨fun disp => .call rfl rfl (.refl s) (s.am_relTarget 2 disp),
    fun disp => .call rfl rfl (.refl s) (s.am_relTarget 4 disp),
    fun n => .call rfl rfl (.refl s) rfl,
    fun abs => .call rfl rfl (.refl s) rfl,
    fun abs => ⟨(s.branchAddress (eaMemInd abs)).1, s.branchAddress_read _,
      .call rfl rfl (s.branchAddress_busRead _) rfl⟩⟩

end Sys2Proof.Machine
end

section
/-! System control (46_system.md): TRAPA, SLEEP and NOP. First the vectors of R486 as the obligations write them and the
effect of an instruction that changes nothing but PC, then the obligations. -/

namespace Sys2Proof.Machine

/-! ### The vectors of TRAPA (R431, R486) -/

/-- In normal mode an entry is a word, the first one at H'0010. -/
theorem State.trapVector_normal {s : State} (hm : s.mode = .normal) (imm : BitVec 2) :
    s.trapVector imm = BitVec.ofNat 24 (0x10 + 2 * imm.toNat) := by
  unfold State.trapVector
  rw [hm, BitVec.ofNat_add, BitVec.ofNat_mul, BitVec.ofNat_toNat]

/-- In advanced mode an entry is a longword, the first one at H'000020. -/
theorem State.trapVector_advanced {s : State} (hm : s.mode = .advanced) (imm : BitVec 2) :
    s.trapVector imm = BitVec.ofNat 24 (0x20 + 4 * imm.toNat) := by
  unfold State.trapVector
  rw [hm, BitVec.ofNat_add, BitVec.ofNat_mul, BitVec.ofNat_toNat]

/-! ### Instructions without data (R433, R455) -/

/-- The effect of an instruction that works on no register, no flag and no memory (NOP). -/
theorem RegisterEffect.refl (s : State) : RegisterEffect s s (SameRegisters s) [] :=
  ⟨.refl s, rfl, fun _ hu => .of_regs hu, .same rfl⟩

/-- SLEEP changes PC and the processing state alone; SSBY selects the power-down state. -/
theorem exec_sleep (s : State) :
    exec .sleep s =
      .next { s with pc := s.am (s.pc + 2), proc := if s.ssby = true then .softwareStandby else .sleep } := rfl

/-! ### The obligations -/

/-- Settles O50: SLEEP writes PC and the processing state; NOP ends an instruction that has no effect. -/
theorem sleepAndNop : Obligations.SleepAndNop := by
  unfold Obligations.SleepAndNop
  intro s
  have sleepKeepsOutside (a : Addr) (p : ProcState) : SameOutside s { s with pc := a, proc := p } := by
    constructor <;> rfl
  exact ⟨⟨_, exec_sleep s, rfl, .of_regs rfl, rfl, .of_mem rfl, rfl, rfl, rfl, rfl, sleepKeepsOutside _ _⟩,
    .of_effect (u := s) rfl rfl (.refl s)⟩

/-- Settles O47: TRAPA is exception entry (R488) with the address of the next instruction and its own vector, which has one
form per mode. -/
theorem trapTakesTheException : Obligations.TrapTakesTheException := by
  unfold Obligations.TrapTakesTheException
  intro s imm
  cases hm : s.mode <;> dsimp only
  · rw [← State.trapVector_normal hm]
    exact ⟨_, rfl, s.exceptionEntry_spec (s.nextPc 2) (s.trapVector imm)⟩
  · rw [← State.trapVector_advanced hm]
    exact ⟨_, rfl, s.exceptionEntry_spec (s.nextPc 2) (s.trapVector imm)⟩

end Sys2Proof.Machine
end

section
/-! Block transfer (47_block.md): EEPMOV.W. A transfer is a chain of single bytes, each copied, counted and checked for NMI:
first what any number of bytes does to registers and memory, then after how many NMI ends it, then the obligation. -/

namespace Sys2Proof.Machine

/-! ### Copying forward -/

theorem copyForward_congr {s t : State} (h : t.mode = s.mode) (f : Addr → Byte) (src dst : Addr) (n : Nat) :
    copyForward t f src dst n = copyForward s f src dst n := by
  induction n generalizing f src dst with
  | zero => rfl
  | succ n ih =>
    have ham : t.am = s.am := by unfold State.am; rw [h]
    rw [copyForward, copyForward, ih, ham]

/-- Copying on from where a copy of `m` bytes ended. -/
theorem copyForward_add (s : State) (f : Addr → Byte) (src dst : Addr) (m n : Nat) :
    copyForward s f src dst (m + n) =
      copyForward s (copyForward s f src dst m) (src + BitVec.ofNat 24 m) (dst + BitVec.ofNat 24 m) n := by
  induction m generalizing f src dst with
  | zero => rw [Nat.zero_add, BitVec.add_zero, BitVec.add_zero, copyForward]
  | succ m ih =>
    have advanced (a : Addr) : a + 1 + BitVec.ofNat 24 m = a + BitVec.ofNat 24 (m + 1) := by
      rw [BitVec.add_assoc, Nat.add_comm m, BitVec.ofNat_add]
      rfl
    rw [Nat.succ_add, copyForward, copyForward, ih, advanced, advanced]

/-- A pointer gone on by `n` points `n` bytes further on. -/
theorem low24_add_ofNat (x : Long) (n : Nat) : low24 (x + BitVec.ofNat 32 n) = low24 x + BitVec.ofNat 24 n := by
  rw [low24, low24, BitVec.setWidth_add _ _ (by decide), BitVec.setWidth_ofNat_of_le (by decide)]

theorem State.accessKind_of_noMap {s : State} (h : s.memMap = []) (a : Addr) : s.accessKind a = .memory := by
  unfold State.accessKind
  rw [h]
  rfl

/-! ### What the transfer of some bytes does -/

/-- EEPMOV.W has transferred `n` bytes between `s` and `t`: what the obligation says of `n` bytes, NMI and the advance of PC
apart, with what the next bytes need. -/
structure BlockCopied (s t : State) (n : Nat) : Prop where
  pointers : BlockPointers s t n
  count : t.reg16 (.r 4#3) = s.reg16 (.r 4#3) - BitVec.ofNat 16 n
  ccr : t.ccr = s.ccr
  frame : DataFrame s t
  quiet : Quiet s → Quiet t
  mem : Quiet s → s.memMap = [] → t.peek = copyForward s s.peek (s.eaInd 5#3) (s.eaInd 6#3) n

theorem BlockPointers.trans {s t u : State} {m n : Nat} (h : BlockPointers s t m) (k : BlockPointers t u n) :
    BlockPointers s u (m + n) := by
  obtain ⟨h5, h6, he, hr⟩ := h
  obtain ⟨k5, k6, ke, kr⟩ := k
  refine ⟨?_, ?_, ke.trans he, fun r r4 r5 r6 => (kr r r4 r5 r6).trans (hr r r4 r5 r6)⟩
  · rw [k5, h5, BitVec.ofNat_add, BitVec.add_assoc]
  · rw [k6, h6, BitVec.ofNat_add, BitVec.add_assoc]

/-- Transfers follow one another. -/
theorem BlockCopied.trans {s t u : State} {m n : Nat} (h : BlockCopied s t m) (k : BlockCopied t u n) :
    BlockCopied s u (m + n) where
  pointers := h.pointers.trans k.pointers
  count := by rw [k.count, h.count, BitVec.ofNat_add, BitVec.sub_sub]
  ccr := k.ccr.trans h.ccr
  frame := h.frame.trans k.frame
  quiet hq := k.quiet (h.quiet hq)
  mem hq hm := by
    obtain ⟨h5, h6, -, -⟩ := h.pointers
    have src : t.eaInd 5#3 = s.eaInd 5#3 + BitVec.ofNat 24 m := by
      rw [State.eaInd, h5, low24_add_ofNat]; rfl
    have dst : t.eaInd 6#3 = s.eaInd 6#3 + BitVec.ofNat 24 m := by
      rw [State.eaInd, h6, low24_add_ofNat]; rfl
    rw [k.mem (h.quiet hq) (h.frame.outside.memMap.trans hm), h.mem hq hm, src, dst,
      copyForward_congr h.frame.outside.mode, ← copyForward_add]

/-- Reading memory transfers nothing. -/
theorem BusRead.blockCopied {s t : State} (h : BusRead s t) : BlockCopied s t 0 where
  pointers := ⟨by rw [State.er_eq_of_regs h.frame.regs, BitVec.add_zero],
    by rw [State.er_eq_of_regs h.frame.regs, BitVec.add_zero], State.reg16_eq_of_regs h.frame.regs _,
    fun r _ _ _ => State.er_eq_of_regs h.frame.regs r⟩
  count := by rw [State.reg16_eq_of_regs h.frame.regs, BitVec.sub_zero]
  ccr := h.frame.ccr
  frame := h.frame.data
  quiet := h.quiet
  mem hq _ := funext fun a => State.peek_eq_of_mem (h.mem hq) a

theorem State.loadByte_busRead (s : State) (a : Addr) : BusRead s (s.loadByte a).2 :=
  ⟨s.loadByte_frame a, fun hq => hq.loadByte_mem a, fun hq => hq.loadByte a⟩

theorem BusRead.trans {s t u : State} (h : BusRead s t) (k : BusRead t u) : BusRead s u :=
  ⟨h.frame.trans k.frame, fun hq => (k.mem (h.quiet hq)).trans (h.mem hq), fun hq => k.quiet (h.quiet hq)⟩

theorem State.eepmovReads_busRead (s : State) : BusRead s s.eepmovReads :=
  (s.loadByte_busRead _).trans (State.loadByte_busRead _ _)

/-! ### One byte -/

/-- The bus cycles of one byte: it is read at ER5 and stored at ER6. -/
def State.eepmovMove (s : State) : State :=
  (s.loadByte (s.eaInd 5#3)).2.storeByte (s.eaInd 6#3) (s.loadByte (s.eaInd 5#3)).1

theorem State.eepmovMove_frame (s : State) : BusFrame s s.eepmovMove :=
  (s.loadByte_frame _).trans (State.storeByte_frame _ _ _)

theorem Quiet.eepmovMove {s : State} (h : Quiet s) : Quiet s.eepmovMove := (h.loadByte _).storeByte _ _

theorem Quiet.peek_eepmovMove {s : State} (hq : Quiet s) (hm : s.memMap = []) :
    s.eepmovMove.peek = copyForward s s.peek (s.eaInd 5#3) (s.eaInd 6#3) 1 := by
  have hram := State.accessKind_of_noMap hm
  have hb := s.loadByte_busRead (s.eaInd 5#3)
  have value : (s.loadByte (s.eaInd 5#3)).1 = s.peek (s.am (s.eaInd 5#3)) :=
    s.loadByte_read _ hq (.inl (hram _))
  funext a
  have hst := (hb.quiet hq).storeByte_stored (s.eaInd 6#3) (s.loadByte (s.eaInd 5#3)).1 a (by simp)
  rw [hb.frame.accessKind, if_pos (hram a), byteCells, lookup_cons_if, hb.frame.am,
    State.peek_eq_of_mem (hb.mem hq)] at hst
  refine hst.trans ?_
  rw [value, copyForward, copyForward]
  split <;> rfl

/-- One byte of EEPMOV.W: it is moved, the pointers go up and R4 goes down (R471, R474). -/
def State.eepmovStepW (s : State) : State :=
  s.eepmovByte.setReg16 (.r 4#3) (s.eepmovByte.reg16 (.r 4#3) - 1)

/-- The pointers go up from what they held before the byte was moved: no bus cycle changes a register. -/
theorem State.eepmovByte_eq (s : State) :
    s.eepmovByte = (s.eepmovMove.setEr 5#3 (s.er 5#3 + 1)).setEr 6#3 (s.er 6#3 + 1) := by
  have hregs := s.eepmovMove_frame.regs
  have hsrc : s.eepmovMove.er 5#3 = s.er 5#3 := State.er_eq_of_regs hregs _
  have hdst : (s.eepmovMove.setEr 5#3 (s.er 5#3 + 1)).er 6#3 = s.er 6#3 :=
    (State.er_setEr_ne _ _ (by decide)).trans (State.er_eq_of_regs hregs _)
  have hread : (s.loadByte (s.eaInd 5#3)).2.eaInd 6#3 = s.eaInd 6#3 :=
    congrArg low24 (State.er_eq_of_regs (s.loadByte_frame _).regs _)
  unfold State.eepmovByte
  dsimp only
  rw [hread]
  change (s.eepmovMove.setEr 5#3 (s.eepmovMove.er 5#3 + 1)).setEr 6#3
    ((s.eepmovMove.setEr 5#3 (s.eepmovMove.er 5#3 + 1)).er 6#3 + 1) = _
  rw [hsrc, hdst]

/-- A byte moves both pointers on by one and no other register. -/
theorem State.er_eepmovByte (s : State) (n : ERn) :
    s.eepmovByte.er n = if n = 6#3 then s.er 6#3 + 1 else if n = 5#3 then s.er 5#3 + 1 else s.er n := by
  rw [State.eepmovByte_eq, State.er_setEr, State.er_setEr, State.er_eq_of_regs s.eepmovMove_frame.regs]

/-- Writing Rn leaves every other ERn. -/
theorem State.er_setReg16_r_ne (s : State) {m n : ERn} (x : Word) (h : m ≠ n) : (s.setReg16 (.r n) x).er m = s.er m :=
  s.er_setEr_ne _ h

theorem State.eepmovStepW_blockCopied (s : State) : BlockCopied s s.eepmovStepW 1 where
  pointers := by
    refine ⟨?_, ?_, ?_, fun m h4 h5 h6 => ?_⟩
    · rw [State.eepmovStepW, State.er_setReg16_r_ne _ _ (by decide), State.er_eepmovByte]; rfl
    · rw [State.eepmovStepW, State.er_setReg16_r_ne _ _ (by decide), State.er_eepmovByte]; rfl
    · rw [State.eepmovStepW, (State.setReg16_only _ _ _).2 _ (by decide), State.reg16_eq_wordOf, State.er_eepmovByte]; rfl
    · rw [State.eepmovStepW, State.er_setReg16_r_ne _ _ h4, State.er_eepmovByte, if_neg h6, if_neg h5]
  count := by
    rw [State.eepmovStepW, (State.setReg16_only _ _ _).1, State.reg16_eq_wordOf, State.er_eepmovByte]; rfl
  ccr := by
    rw [State.eepmovStepW, State.setReg16_ccr, State.eepmovByte_eq]
    exact s.eepmovMove_frame.ccr
  frame := by
    rw [State.eepmovStepW, State.eepmovByte_eq]
    exact s.eepmovMove_frame.data.trans ((State.setEr_frame _ _ _).trans ((State.setEr_frame _ _ _).trans
      (State.setReg16_frame _ _ _)))
  quiet hq := by
    rw [State.eepmovStepW, Quiet, State.setReg16_busScript, State.eepmovByte_eq]
    exact hq.eepmovMove
  mem hq hm := by
    rw [← hq.peek_eepmovMove hm]
    funext a
    refine State.peek_eq_of_mem ?_ a
    rw [State.eepmovStepW, State.setReg16_mem, State.eepmovByte_eq, State.setEr_mem, State.setEr_mem]

/-- As many steps as bytes. -/
theorem State.eepmovStepW_iterate_blockCopied (s : State) (n : Nat) : BlockCopied s (State.eepmovStepW^[n] s) n := by
  induction n with
  | zero => exact (BusRead.refl s).blockCopied
  | succ n ih =>
    rw [Function.iterate_succ_apply']
    exact ih.trans (State.eepmovStepW_blockCopied _)

/-! ### Where NMI ends the transfer (R471, R472, D23) -/

theorem State.nmiAfter_congr {s t : State} (h : SameOutside s t) (k : Nat) : t.nmiAfter k = s.nmiAfter k := by
  unfold State.nmiAfter
  rw [h.pending, h.lateNmi]

theorem State.eepmovLoopW_cut {s : State} {k : Nat} {r : Request} (h : s.nmiAfter (k + 1) = some r) (n : Nat) :
    s.eepmovLoopW k (n + 1) = { s.eepmovStepW with nmiDue := some r } := by
  rw [← State.nmiAfter_congr s.eepmovStepW_blockCopied.frame.outside, State.eepmovStepW] at h
  rw [State.eepmovLoopW]
  simp only [h]
  rfl

theorem State.eepmovLoopW_goesOn {s : State} {k : Nat} (h : s.nmiAfter (k + 1) = none) (n : Nat) :
    s.eepmovLoopW k (n + 1) = s.eepmovStepW.eepmovLoopW (k + 1) n := by
  rw [← State.nmiAfter_congr s.eepmovStepW_blockCopied.frame.outside, State.eepmovStepW] at h
  rw [State.eepmovLoopW]
  simp only [h]
  rfl

/-- While no NMI is seen the loop goes on byte by byte. -/
theorem State.eepmovLoopW_add {s : State} {k m : Nat} (h : ∀ i, i < m → s.nmiAfter (k + i + 1) = none) (n : Nat) :
    s.eepmovLoopW k (m + n) = (State.eepmovStepW^[m] s).eepmovLoopW (k + m) n := by
  induction m generalizing s k with
  | zero => rw [Nat.zero_add]; rfl
  | succ m ih =>
    have hstep := s.eepmovStepW_blockCopied.frame.outside
    rw [Nat.succ_add, State.eepmovLoopW_goesOn (h 0 m.succ_pos), ih, Function.iterate_succ_apply,
      Nat.add_right_comm k 1 m, Nat.add_assoc k m 1]
    intro i hi
    rw [State.nmiAfter_congr hstep, Nat.add_right_comm k 1 i]
    exact h (i + 1) (by omega)

/-- Either no NMI is requested at any byte, or one is after `j + 1` bytes and from there on; the count and the due NMI follow. -/
theorem State.nmi_cases (s : State) :
    ((∀ k, s.nmiAfter k = none) ∧ s.eepmovCount = (s.reg16 (.r 4#3)).toNat ∧ s.eepmovDue = s.nmiDue) ∨
    ∃ j r, (∀ k, s.nmiAfter (k + 1) = if j ≤ k then some r else none) ∧
      s.eepmovCount = min (s.reg16 (.r 4#3)).toNat (j + 1) ∧
      s.eepmovDue = if j + 1 ≤ (s.reg16 (.r 4#3)).toNat then some r else s.nmiDue := by
  unfold State.nmiAfter State.eepmovCount State.eepmovDue
  generalize (s.reg16 (.r 4#3)).toNat = n
  cases hp : s.pending.find? fun r => r.isNMI with
  | some r =>
    have hex : ∃ q ∈ s.pending, q.isNMI = true :=
      ⟨r, List.mem_of_find?_eq_some hp, by simpa using List.find?_some hp⟩
    refine .inr ⟨0, r, fun k => rfl, if_pos hex, ?_⟩
    cases n <;> rfl
  | none =>
    have hnot : ¬∃ q ∈ s.pending, q.isNMI = true := by simpa using hp
    rw [if_neg hnot]
    cases s.lateNmi with
    | none => exact .inl ⟨fun _ => rfl, rfl, ite_self _⟩
    | some late =>
      obtain ⟨j, r⟩ := late
      dsimp only
      cases r.isNMI with
      | false => exact .inl ⟨fun k => by simp, by simp, by simp⟩
      | true =>
        have hj : max j 1 = j - 1 + 1 := by omega
        refine .inr ⟨j - 1, r, fun k => ?_, ?_, ?_⟩
        · have hle : j ≤ k + 1 ↔ j - 1 ≤ k := by omega
          simp only [Bool.true_and, decide_eq_true_eq, hle]
        · rw [if_pos rfl, hj]
        · cases n with
          | zero => rfl
          | succ n => simp only [hj, true_and, Nat.add_eq_zero_iff, one_ne_zero, and_false, if_false]

/-- The loop transfers the bytes that count, and leaves the NMI that is due. -/
theorem State.eepmovLoopW_eq (s : State) :
    s.eepmovLoopW 0 (s.reg16 (.r 4#3)).toNat =
      { State.eepmovStepW^[s.eepmovCount] s with nmiDue := s.eepmovDue } := by
  have hdue (m : Nat) : (State.eepmovStepW^[m] s).nmiDue = s.nmiDue :=
    (s.eepmovStepW_iterate_blockCopied m).frame.control.nmiDue
  have uncut (h : ∀ i, i < (s.reg16 (.r 4#3)).toNat → s.nmiAfter (0 + i + 1) = none) :
      s.eepmovLoopW 0 (s.reg16 (.r 4#3)).toNat =
        { State.eepmovStepW^[(s.reg16 (.r 4#3)).toNat] s with nmiDue := s.nmiDue } := by
    rw [← hdue (s.reg16 (.r 4#3)).toNat]
    exact State.eepmovLoopW_add h 0
  obtain ⟨hnone, hcount, hnmi⟩ | ⟨j, r, hseen, hcount, hnmi⟩ := s.nmi_cases
  · rw [hcount, hnmi]
    exact uncut fun i _ => hnone _
  · by_cases hj : j + 1 ≤ (s.reg16 (.r 4#3)).toNat
    · obtain ⟨n, hn⟩ := Nat.exists_eq_add_of_le hj
      have before (i : Nat) (hi : i < j) : s.nmiAfter (0 + i + 1) = none := by
        rw [hseen, if_neg (by omega)]
      have cut : (State.eepmovStepW^[j] s).nmiAfter (0 + j + 1) = some r := by
        rw [State.nmiAfter_congr (s.eepmovStepW_iterate_blockCopied j).frame.outside, hseen, if_pos (by omega)]
      rw [hcount, hnmi, if_pos hj, Nat.min_eq_right hj, Function.iterate_succ_apply', hn, Nat.add_right_comm,
        Nat.add_assoc j n 1, State.eepmovLoopW_add before, State.eepmovLoopW_cut cut]
    · rw [hcount, hnmi, if_neg hj, Nat.min_eq_left (by omega)]
      exact uncut fun i hi => by rw [hseen, if_neg (by omega)]

theorem BusFrame.eepmovCount {s t : State} (h : BusFrame s t) : t.eepmovCount = s.eepmovCount := by
  unfold State.eepmovCount
  rw [State.reg16_eq_of_regs h.regs, h.pending, h.lateNmi]

theorem BusFrame.eepmovDue {s t : State} (h : BusFrame s t) : t.eepmovDue = s.eepmovDue := by
  unfold State.eepmovDue
  rw [State.reg16_eq_of_regs h.regs, h.pending, h.lateNmi, h.nmiDue]

/-- EEPMOV.W up to the advance of PC: a transfer of the bytes that count, with the NMI that is then due. -/
theorem State.eepmovW_copied (s : State) :
    ∃ t, BlockCopied s t s.eepmovCount ∧ s.eepmovW = { t with nmiDue := s.eepmovDue } := by
  have hread := s.eepmovReads_busRead
  have hcopied := hread.blockCopied.trans (s.eepmovReads.eepmovStepW_iterate_blockCopied s.eepmovCount)
  rw [Nat.zero_add] at hcopied
  refine ⟨_, hcopied, ?_⟩
  rw [← hread.frame.eepmovCount, ← hread.frame.eepmovDue, ← State.eepmovLoopW_eq,
    State.reg16_eq_of_regs hread.frame.regs]
  rfl

/-! ### The obligation -/

/-- Settles O55: EEPMOV.W is a transfer of the bytes that count, after which the due NMI is noted and PC goes on. -/
theorem blockTransferOfWordsCount : Obligations.BlockTransferOfWordsCount := by
  unfold Obligations.BlockTransferOfWordsCount
  intro s
  obtain ⟨t, ht, hw⟩ := s.eepmovW_copied
  have hexec : exec .eepmovW s = .next (s.eepmovW.advance 4) := rfl
  rw [hw] at hexec
  have hpc : t.am (t.pc + 4) = s.am (s.pc + 4) := by
    rw [ht.frame.pc]; unfold State.am; rw [ht.frame.outside.mode]
  exact ⟨_, hexec, ht.pointers, ht.count, .same ht.ccr, hpc, rfl, ht.frame.control.proc, ht.frame.control.inhibitInt,
    ht.frame.control.stale, ht.frame.outside.trans (by constructor <;> rfl), fun hq hm a => congrFun (ht.mem hq hm) a⟩

end Sys2Proof.Machine
end

section
/-! Exceptions and processing states (60_exceptions.md, sections 3 and 4), and the frame of memory that is not RAM (D25). First
how the step's parts answer: the sampled inputs, the processing state, the request that is taken; then what entering an
interrupt and releasing the bus do to the state a whole step leaves. -/

namespace Sys2Proof.Machine

/-! ### The inputs of a step (log 19) -/

/-- What the environment's inputs leave alone: the CPU, memory and the parameters. -/
structure SampleFrame (s u : State) : Prop where
  cpu : SameCpu s u
  proc : u.proc = s.proc
  mem : u.mem = s.mem
  mode : u.mode = s.mode
  memMap : u.memMap = s.memMap

theorem SameRegisters.refl (s : State) : SameRegisters s s := fun _ => rfl

theorem SameCpu.refl (s : State) : SameCpu s s := ⟨.refl s, rfl, rfl, rfl, rfl⟩

theorem SameCpu.trans {s t u : State} (h : SameCpu s t) (k : SameCpu t u) : SameCpu s u :=
  ⟨fun n => (k.registers n).trans (h.registers n), k.ccr.trans h.ccr, k.pc.trans h.pc, k.inhibitInt.trans h.inhibitInt,
    k.nmiDue.trans h.nmiDue⟩

theorem State.sample_frame (s : State) : SampleFrame s s.sample.1 := by
  unfold State.sample
  split
  · exact ⟨.refl s, rfl, rfl, rfl, rfl⟩
  · exact ⟨⟨.refl s, rfl, rfl, rfl, rfl⟩, rfl, rfl, rfl, rfl⟩

theorem SampleFrame.of_sample {s u : State} {ws : List Host.Cell} (h : s.sample = (u, ws)) : SampleFrame s u := by
  have hf := s.sample_frame
  rw [h] at hf
  exact hf

theorem State.sample_of_env_nil {s : State} (h : s.env = []) : s.sample = (s, []) := by
  unfold State.sample
  rw [h]

theorem State.sample_of_env_cons {s : State} {k : Tick} {ks : List Tick} (h : s.env = k :: ks) :
    ∃ u, s.sample = (u, k.busWrites) ∧ u.stbyLow = k.stbyLow ∧ u.resLow = k.resLow ∧ u.busReq = k.busReq ∧
      u.pending = k.present.getD s.pending := by
  unfold State.sample
  rw [h]
  exact ⟨_, rfl, rfl, rfl, rfl, rfl⟩

/-! ### The answer of a step (R480, R509) -/

theorem step_of_react_next {s u t : State} {ws : List Host.Cell} (hs : s.sample = (u, ws)) (hr : u.react ws = .next t) :
    step s = .next t.settle := by
  unfold step State.cycle
  rw [hs, hr]

theorem step_of_react_refused {s u : State} {ws : List Host.Cell} {e : Refusal} (hs : s.sample = (u, ws))
    (hr : u.react ws = .refused e) : step s = .refused e := by
  unfold step State.cycle
  rw [hs, hr]

section Pins

/-! With both pins inactive the processing state and the bus request decide. -/

variable {s : State} (hstby : s.stbyLow = false) (hres : s.resLow = false) (ws : List Host.Cell)
include hstby hres

theorem State.react_of_programExecution (hp : s.proc = .programExecution) (hb : s.busReq = false) :
    s.react ws = s.runProgram := by
  simp [State.react, hstby, hres, hp, hb]

theorem State.react_of_powerDown (hp : s.proc = .sleep ∨ s.proc = .softwareStandby) : s.react ws = s.runPowerDown := by
  obtain hp | hp := hp <;> simp [State.react, hstby, hres, hp]

theorem State.react_of_busRequest (hp : s.proc = .programExecution ∨ s.proc = .busReleased) (hb : s.busReq = true) :
    s.react ws = .next (s.releaseBus ws) := by
  obtain hp | hp := hp <;> simp [State.react, hstby, hres, hp, hb]

theorem State.react_of_busReturned (hp : s.proc = .busReleased) (hb : s.busReq = false) :
    s.react ws = .next { s with proc := .programExecution } := by
  simp [State.react, hstby, hres, hp, hb]

end Pins

theorem State.runProgram_of_nmiDue {s : State} {r : Request} (h : s.nmiDue = some r) :
    s.runProgram = s.interruptEntry r := by
  unfold State.runProgram
  rw [h]

theorem State.runProgram_of_best {s : State} {r : Request} (hn : s.nmiDue = none) (hi : s.inhibitInt = false)
    (h : bestRequest s.pending s.accepts = some r) : s.runProgram = s.interruptEntry r := by
  unfold State.runProgram
  rw [hn, hi, h]
  rfl

theorem State.runPowerDown_of_best {s : State} {r : Request} (h : bestRequest s.pending s.wakes = some r) :
    s.runPowerDown = s.interruptEntry r := by
  unfold State.runPowerDown
  rw [h]

theorem State.runPowerDown_of_none {s : State} (h : bestRequest s.pending s.wakes = none) : s.runPowerDown = .next s := by
  unfold State.runPowerDown
  rw [h]

/-! ### Which request is taken (R490, R498, R500, R501) -/

theorem State.accepts_eq_false_iff (s : State) (r : Request) : s.accepts r = false ↔ Masked s r := by
  simp [State.accepts, Masked, and_assoc, or_assoc, imp_iff_not_or]

theorem State.wakes_of_sleep {s : State} (h : s.proc = .sleep) : s.wakes = s.accepts := by
  funext r
  simp [State.wakes, h]

theorem State.wakes_eq_false_iff {s : State} (h : s.proc = .softwareStandby) (r : Request) :
    s.wakes r = false ↔ KeepsStandby s r := by
  unfold KeepsStandby
  rw [← s.accepts_eq_false_iff r]
  simp [State.wakes, h, imp_iff_not_or]

theorem bestRequest_eq_none {l : List Request} {ok : Request → Bool} (h : ∀ r ∈ l, ok r = false) :
    bestRequest l ok = none := by
  have hnmi : (l.find? fun r => r.isNMI && ok r) = none :=
    List.find?_eq_none.2 fun r hr => by simp [h r hr]
  have hany : l.find? ok = none := List.find?_eq_none.2 fun r hr => by simp [h r hr]
  rw [bestRequest, hnmi, hany]

/-- An NMI that may be taken, with none before it, is taken. -/
theorem bestRequest_of_nmi {before after : List Request} {r : Request} {ok : Request → Bool} (hn : r.isNMI = true)
    (hr : ok r = true) (hb : ∀ q ∈ before, q.isNMI = false ∨ ok q = false) :
    bestRequest (before ++ r :: after) ok = some r := by
  have hfind : ((before ++ r :: after).find? fun q => q.isNMI && ok q) = some r :=
    List.find?_eq_some_iff_append.2
      ⟨by simp [hn, hr], before, after, rfl, fun q hq => by simpa [imp_iff_not_or] using hb q hq⟩
  rw [bestRequest, hfind]

/-- Where no NMI may be taken, the first request that may is taken. -/
theorem bestRequest_of_first {before after : List Request} {r : Request} {ok : Request → Bool} (hr : ok r = true)
    (hn : ∀ q ∈ before ++ r :: after, q.isNMI = false ∨ ok q = false) (hb : ∀ q ∈ before, ok q = false) :
    bestRequest (before ++ r :: after) ok = some r := by
  have hnone : ((before ++ r :: after).find? fun q => q.isNMI && ok q) = none :=
    List.find?_eq_none.2 fun q hq => by simpa [imp_iff_not_or] using hn q hq
  have hfind : (before ++ r :: after).find? ok = some r :=
    List.find?_eq_some_iff_append.2 ⟨hr, before, after, rfl, fun q hq => by simp [hb q hq]⟩
  rw [bestRequest, hnone, hfind]

theorem Foremost.accepts {s : State} {before after : List Request} {r : Request} (h : Foremost s before r after) :
    s.accepts r = true := by
  rw [← Bool.not_eq_false, s.accepts_eq_false_iff r]
  obtain ⟨-, ⟨hn, -⟩ | ⟨-, -, hr⟩⟩ := h
  · rintro ⟨hn', -⟩
    exact Bool.false_ne_true (hn'.symm.trans hn)
  · exact hr

theorem Foremost.bestRequest {s : State} {before after : List Request} {r : Request} (h : Foremost s before r after) :
    bestRequest s.pending s.accepts = some r := by
  have hr := h.accepts
  obtain ⟨hl, ⟨hn, hb⟩ | ⟨hn, hb, -⟩⟩ := h
  · rw [hl]
    exact bestRequest_of_nmi hn hr fun q hq => .inl (hb q hq)
  · rw [hl] at hn ⊢
    exact bestRequest_of_first hr (fun q hq => .inl (hn q hq)) fun q hq => (s.accepts_eq_false_iff q).2 (hb q hq)

theorem Awakening.bestRequest {s : State} {before after : List Request} {r : Request} (hp : s.proc = .softwareStandby)
    (h : Awakening s before r after) : bestRequest s.pending s.wakes = some r := by
  obtain ⟨hl, hkeep, hfirst⟩ := h
  simp only [← State.wakes_eq_false_iff hp] at hkeep hfirst
  have hr : s.wakes r = true := Bool.not_eq_false _ ▸ hkeep
  rw [hl] at hfirst ⊢
  obtain ⟨hn, hb⟩ | ⟨hn, hb⟩ := hfirst
  · exact bestRequest_of_nmi hn hr hb
  · exact bestRequest_of_first hr hn hb

/-- The request taken does not stand before its own place, so acknowledging it withdraws that occurrence (R492). -/
theorem Foremost.erase {s : State} {before after : List Request} {r : Request} (h : Foremost s before r after) :
    s.pending.erase r = before ++ after := by
  obtain ⟨hl, hfirst⟩ := h
  have hnot : r ∉ before := fun hr => by
    obtain ⟨hn, hb⟩ | ⟨-, hb, hm⟩ := hfirst
    · exact Bool.false_ne_true ((hb r hr).symm.trans hn)
    · exact hm (hb r hr)
  rw [hl, List.erase_append_right _ hnot, List.erase_cons_head]

/-! ### Entering an interrupt (R483, R488, R492) -/

theorem State.vectorNumber_congr {s t : State} (h : t.mode = s.mode) (vec : Addr) :
    t.vectorNumber vec = s.vectorNumber vec := by
  unfold State.vectorNumber State.am
  rw [h]

theorem State.vectorAllowed_congr {s t : State} (h : t.mode = s.mode) (vec : Addr) :
    t.vectorAllowed vec = s.vectorAllowed vec := by
  unfold State.vectorAllowed
  rw [State.vectorNumber_congr h]

theorem Quiet.exceptionEntry {s : State} (hq : Quiet s) (ret vec : Addr) : Quiet (s.exceptionEntry ret vec) := by
  have hm : Quiet (s.excPush ret s.ccr).maskInterrupts := by
    unfold Quiet
    rw [State.maskInterrupts_busScript]
    exact hq.excPush ret s.ccr
  exact hm.branchAddress vec

/-- The acknowledgement and the end of the step's inputs leave the exception taken. -/
theorem State.exceptionEntry_acknowledge_settle_taken (s : State) (r : Request) (ret vec : Addr) :
    ExceptionTaken s ((s.exceptionEntry ret vec).acknowledge r).settle ret vec := by
  obtain ⟨h, -⟩ := s.exceptionEntry_spec ret vec
  obtain ⟨v, hread, hpc⟩ := h.target
  exact
    { registers := h.registers.of_regs rfl
      flags := h.flags
      frame := fun hq => (h.frame hq).of_mem rfl
      target := ⟨v, fun hq => (hread hq).of_mem (hq.exceptionEntry ret vec) rfl rfl rfl, hpc⟩
      running := h.running
      prefetchEmpty := h.prefetchEmpty }

/-- A step that enters the interrupt of `r`, when its vector is one an interrupt may use. -/
theorem step_of_interruptEntry {s u : State} {ws : List Host.Cell} {r : Request} (hs : s.sample = (u, ws))
    (hr : u.react ws = u.interruptEntry r) (hv : u.vectorAllowed r.vector = true) :
    ∃ t, step s = .next t ∧ ExceptionTaken u t u.pc r.vector ∧ t.inhibitInt = u.inhibitInt ∧ t.nmiDue = none ∧
      t.pending = u.pending.erase r ++ (u.lateNmi.map fun x => x.2).toList := by
  rw [State.interruptEntry, if_pos hv] at hr
  obtain ⟨-, hinh, -, hout⟩ := u.exceptionEntry_spec u.pc r.vector
  refine ⟨_, step_of_react_next hs hr, u.exceptionEntry_acknowledge_settle_taken r _ _, hinh, rfl, ?_⟩
  rw [← hout.pending, ← hout.lateNmi]
  rfl

/-- The same, when its vector is one that an interrupt may not use (R483, U7). -/
theorem step_of_interruptEntry_illegal {s u : State} {ws : List Host.Cell} {r : Request} (hs : s.sample = (u, ws))
    (hr : u.react ws = u.interruptEntry r) (hv : u.vectorAllowed r.vector = false) : step s = .refused .illegalVector := by
  rw [State.interruptEntry, hv, if_neg Bool.false_ne_true] at hr
  exact step_of_react_refused hs hr

/-! ### Releasing the bus (R503, R79) -/

theorem BusFrame.sameCpu {s t : State} (h : BusFrame s t) : SameCpu s t :=
  ⟨.of_regs h.regs, h.ccr, h.pc, h.inhibitInt, h.nmiDue⟩

/-- Another master's write obeys the memory map and the mode, as a byte store does (D25, R66). -/
theorem State.masterWrites_singleton_stored (s : State) (a : Nat) (x : Byte) :
    Stored s (s.masterWrites [(a, x)]) (byteCells s (BitVec.ofNat 24 a) x) [] := by
  intro b _
  show (s.writePhys (s.am (BitVec.ofNat 24 a)) x).peek b = _
  rw [State.peek_writePhys, byteCells, lookup_cons_if]
  by_cases hm : s.accessKind b = .memory
  · by_cases hb : b = s.am (BitVec.ofNat 24 a) <;> simp [hm, hb]
  · simp [hm]

theorem byteCells_congr {s t : State} (h : t.mode = s.mode) (ea : Addr) (v : Byte) : byteCells t ea v = byteCells s ea v := by
  simp only [byteCells, State.am, h]

/-- What a step that releases the bus leaves: the CPU as it was, and in memory the other master's writes. -/
structure BusHandedOver (s u t : State) (ws : List Host.Cell) : Prop where
  proc : t.proc = .busReleased
  cpu : SameCpu s t
  pending : ∀ r ∈ u.pending, r ∈ t.pending
  sameMemory : ws = [] → SameMemory s t
  stored : ∀ a x, ws = [(a, x)] → Stored s t (byteCells s (BitVec.ofNat 24 a) x) []

theorem step_of_busRequest {s u : State} {ws : List Host.Cell} (hs : s.sample = (u, ws))
    (hp : s.proc = .programExecution ∨ s.proc = .busReleased) (hstby : u.stbyLow = false) (hres : u.resLow = false)
    (hb : u.busReq = true) : ∃ t, step s = .next t ∧ BusHandedOver s u t ws := by
  have hu : SampleFrame s u := .of_sample hs
  have hw : BusFrame u (u.masterWrites ws) := u.masterWrites_frame ws
  have hcpu : SameCpu s (u.masterWrites ws) := hu.cpu.trans hw.sameCpu
  refine ⟨_, step_of_react_next hs (State.react_of_busRequest hstby hres ws (hu.proc ▸ hp) hb), ?_⟩
  exact
    { proc := rfl
      cpu := hcpu.trans ⟨.of_regs rfl, rfl, rfl, rfl, rfl⟩
      pending := fun r hr => List.mem_append_left _ (hw.pending.symm ▸ hr)
      sameMemory := fun hn => .of_mem (by subst hn; exact hu.mem)
      stored := fun a x hx => by
        subst hx
        have hst := (u.masterWrites_singleton_stored a x).of_peek hu.mem.symm hu.memMap.symm
        rw [byteCells_congr hu.mode] at hst
        exact hst.of_mem rfl }

/-- When the request ends, program execution goes on where it was. -/
theorem step_of_busReturned {s u : State} {ws : List Host.Cell} (hs : s.sample = (u, ws)) (hp : s.proc = .busReleased)
    (hstby : u.stbyLow = false) (hres : u.resLow = false) (hb : u.busReq = false) :
    ∃ t, step s = .next t ∧ t.proc = .programExecution ∧ SameCpu s t ∧ SameMemory s t := by
  have hu : SampleFrame s u := .of_sample hs
  exact ⟨_, step_of_react_next hs (State.react_of_busReturned hstby hres ws (hu.proc.trans hp) hb), rfl,
    hu.cpu.trans ⟨.of_regs rfl, rfl, rfl, rfl, rfl⟩, .of_mem hu.mem⟩

/-! ### The obligations -/

/-- Settles O12: a byte that is not RAM is among what a step keeps. -/
theorem onlyRamChanges : Obligations.OnlyRamChanges := by
  unfold Obligations.OnlyRamChanges
  intro s t a hstep ha
  exact (step_stepKept hstep).kept.peek a (.inl ha)

/-- Settles O56: the foremost request is the one `bestRequest` finds, an NMI due from EEPMOV.W comes before it, and either
is entered or refused by its vector. -/
theorem acceptedInterruptIsTaken : Obligations.AcceptedInterruptIsTaken := by
  unfold Obligations.AcceptedInterruptIsTaken
  intro s
  refine ⟨fun before after r hq hp hdue hinh hr => ?_, ?_⟩
  · have hs := State.sample_of_env_nil hq.env
    have hreact : s.react [] = s.interruptEntry r :=
      (State.react_of_programExecution hq.stbyLow hq.resLow [] hp hq.busReq).trans
        (State.runProgram_of_best hdue hinh hr.bestRequest)
    refine ⟨fun hv => ?_, step_of_interruptEntry_illegal hs hreact⟩
    obtain ⟨t, hstep, htaken, hinh', -, hpend⟩ := step_of_interruptEntry hs hreact hv
    exact ⟨t, hstep, htaken, hinh'.trans hinh, hr.erase ▸ hpend⟩
  · intro r u hp hdue hstby hres hb
    have hs : s.sample = (u, s.sample.2) := rfl
    have hu : SampleFrame s u := s.sample_frame
    have hreact : u.react s.sample.2 = u.interruptEntry r :=
      (State.react_of_programExecution hstby hres _ (hu.proc.trans hp) hb).trans
        (State.runProgram_of_nmiDue (hu.cpu.nmiDue.trans hdue))
    rw [← State.vectorAllowed_congr hu.mode, ← hu.cpu.pc]
    refine ⟨fun hv => ?_, step_of_interruptEntry_illegal hs hreact⟩
    obtain ⟨t, hstep, htaken, -, hdue', hpend⟩ := step_of_interruptEntry hs hreact hv
    exact ⟨t, hstep, htaken, hdue', hpend⟩

/-- Settles O57: in a power-down state the step stays where `bestRequest` finds no request that wakes, and enters the one it
finds. -/
theorem sleepLastsUntilAnAcceptedRequest : Obligations.SleepLastsUntilAnAcceptedRequest := by
  unfold Obligations.SleepLastsUntilAnAcceptedRequest
  intro s hq
  have hs := State.sample_of_env_nil hq.env
  have hreact (hp : s.proc = .sleep ∨ s.proc = .softwareStandby) : s.react [] = s.runPowerDown :=
    State.react_of_powerDown hq.stbyLow hq.resLow [] hp
  have stays (hp : s.proc = .sleep ∨ s.proc = .softwareStandby) (hn : ∀ r ∈ s.pending, s.wakes r = false) :
      step s = .next s.settle :=
    step_of_react_next hs ((hreact hp).trans (State.runPowerDown_of_none (bestRequest_eq_none hn)))
  have ends {r : Request} (hp : s.proc = .sleep ∨ s.proc = .softwareStandby)
      (hr : bestRequest s.pending s.wakes = some r) (hv : s.vectorAllowed r.vector = true) :
      ∃ t, step s = .next t ∧ ExceptionTaken s t s.pc r.vector := by
    obtain ⟨t, hstep, htaken, -⟩ :=
      step_of_interruptEntry hs ((hreact hp).trans (State.runPowerDown_of_best hr)) hv
    exact ⟨t, hstep, htaken⟩
  refine ⟨fun hp hm => stays (.inl hp) fun r hr => ?_, fun hp hk => stays (.inr hp) fun r hr => ?_,
    fun before r after hp hr => ends (.inl hp) ?_, fun before r after hp hr => ends (.inr hp) (hr.bestRequest hp)⟩
  · rw [State.wakes_of_sleep hp]
    exact (s.accepts_eq_false_iff r).2 (hm r hr)
  · exact (State.wakes_eq_false_iff hp r).2 (hk r hr)
  · rw [State.wakes_of_sleep hp]
    exact hr.bestRequest

/-- Settles O60: while the request is there the bus is handed over, and when it ends program execution goes on, with inputs
from the schedule or with the levels that already stand. -/
theorem busReleaseChangesNoCpuState : Obligations.BusReleaseChangesNoCpuState := by
  unfold Obligations.BusReleaseChangesNoCpuState
  intro s hp
  refine ⟨fun k ks henv hres hstby => ?_, fun henv hres hstby => ?_⟩
  · obtain ⟨u, hs, hstby', hres', hbus, hpend⟩ := State.sample_of_env_cons henv
    rw [← hbus, ← hpend]
    refine ⟨fun hb => ?_, fun hb hrel => step_of_busReturned hs hrel (hstby'.trans hstby) (hres'.trans hres) hb⟩
    obtain ⟨t, hstep, ht⟩ := step_of_busRequest hs hp (hstby'.trans hstby) (hres'.trans hres) hb
    exact ⟨t, hstep, ht.proc, ht.cpu, ht.pending, ht.sameMemory, ht.stored⟩
  · have hs := State.sample_of_env_nil henv
    refine ⟨fun hb => ?_, fun hb hrel => step_of_busReturned hs hrel hstby hres hb⟩
    obtain ⟨t, hstep, ht⟩ := step_of_busRequest hs hp hstby hres hb
    exact ⟨t, hstep, ht.proc, ht.cpu, ht.pending, ht.sameMemory rfl⟩

end Sys2Proof.Machine
end

section
/-! Hazards (70_reset_and_hazards.md, R543): a taken transfer of control refetches. First the instruction a step runs when no
interrupt is taken, then that every transfer completes, then what the prefetch keeps. -/

namespace Sys2Proof.Machine

/-! ### A step that runs an instruction (R489, R491, R509) -/

theorem State.runProgram_of_masked {s : State} (hn : s.nmiDue = none)
    (hm : s.inhibitInt = true ∨ ∀ r ∈ s.pending, Masked s r) :
    s.runProgram = ({ s with inhibitInt := false } : State).runInstr := by
  cases hi : s.inhibitInt with
  | true =>
    unfold State.runProgram
    rw [hn, hi]
    rfl
  | false =>
    have hmasked : ∀ r ∈ s.pending, Masked s r := hm.resolve_left (by simp [hi])
    have hbest : bestRequest s.pending s.accepts = none :=
      bestRequest_eq_none fun r hr => (s.accepts_eq_false_iff r).2 (hmasked r hr)
    have hsame : ({ s with inhibitInt := false } : State) = s := by rw [← hi]
    rw [hsame]
    unfold State.runProgram
    rw [hn, hi, hbest]
    rfl

theorem State.runInstr_of_fetchInstr {s s1 t : State} {i : Instr} (hf : s.fetchInstr = .instr i s1)
    (hx : exec i s1 = .next t) : s.runInstr = .next (prefetchAfter i s1 t) := by
  unfold State.runInstr
  rw [hf]
  dsimp only
  rw [hx]

/-- An undisturbed step that takes no interrupt is the instruction it fetches, then the prefetch and the end of the step. -/
theorem step_of_fetchInstr {s s1 t : State} {i : Instr} (hq : Undisturbed s) (hp : s.proc = .programExecution)
    (hn : s.nmiDue = none) (hm : s.inhibitInt = true ∨ ∀ r ∈ s.pending, Masked s r)
    (hf : ({ s with inhibitInt := false } : State).fetchInstr = .instr i s1) (hx : exec i s1 = .next t) :
    step s = .next (prefetchAfter i s1 t).settle := by
  refine step_of_react_next (State.sample_of_env_nil hq.env) ?_
  calc s.react []
      _ = s.runProgram := State.react_of_programExecution hq.stbyLow hq.resLow [] hp hq.busReq
      _ = ({ s with inhibitInt := false } : State).runInstr := State.runProgram_of_masked hn hm
      _ = .next (prefetchAfter i s1 t) := State.runInstr_of_fetchInstr hf hx

/-! ### Transfers of control (R400 to R413, R431, R432) -/

/-- No transfer of control ends in a fault or a refusal. -/
theorem exec_next_of_takesTransfer {i : Instr} {s : State} (h : TakesTransfer i s) : ∃ t, exec i s = .next t := by
  cases i with
  | braD8 | bhiD8 | blsD8 | bccD8 | bcsD8 | bneD8 | beqD8 | bvcD8 | bvsD8 | bplD8 | bmiD8 | bgeD8 | bltD8 | bgtD8
  | bleD8 | braD16 | bhiD16 | blsD16 | bccD16 | bcsD16 | bneD16 | beqD16 | bvcD16 | bvsD16 | bplD16 | bmiD16 | bgeD16
  | bltD16 | bgtD16 | bleD16 =>
    exact ⟨_, rfl⟩
  | jmpInd | jmpAbs24 | jmpMemInd => exact ⟨_, rfl⟩
  | bsrD8 | bsrD16 | jsrInd | jsrAbs24 | jsrMemInd => exact ⟨_, rfl⟩
  | rts | rte | trapa => exact ⟨_, rfl⟩
  | _ => exact h.elim

/-! ### The prefetch after a transfer (R400 (e), R404, R543) -/

/-- The model's test of a push after the fetch at the target holds for the calls of R404 alone. -/
theorem pushesLast_of_pushesAfterFetch {i : Instr} (h : pushesAfterFetch i = true) : PushesLast i := by
  cases i with
  | bsrD8 disp => exact .inl ⟨disp, rfl⟩
  | bsrD16 disp => exact .inr (.inl ⟨disp, rfl⟩)
  | jsrInd n => exact .inr (.inr (.inl ⟨n, rfl⟩))
  | jsrAbs24 abs => exact .inr (.inr (.inr ⟨abs, rfl⟩))
  | _ => exact (Bool.false_ne_true h).elim

theorem prefetchAfter_stale_eq_nil {i : Instr} {s t : State} (h : TakesTransfer i s) (hp : ¬PushesLast i) :
    (prefetchAfter i s t).stale = [] :=
  (prefetchAfter_of_transfer (transfersControl_of_takesTransfer h)).resolve_right fun hpush =>
    hp (pushesLast_of_pushesAfterFetch hpush.1)

/-- A byte that may still be fetched old after a transfer is one that the transfer itself changed. -/
theorem lookup_ne_of_mem_stale_prefetchAfter {i : Instr} {s t : State} {x : Host.Cell} (h : TakesTransfer i s)
    (hx : x ∈ (prefetchAfter i s t).stale) : Memory.lookup s.mem x.1 ≠ Memory.lookup t.mem x.1 := by
  obtain hnil | ⟨-, hstale⟩ := prefetchAfter_of_transfer (t := t) (transfersControl_of_takesTransfer h)
  · rw [hnil] at hx
    exact (List.not_mem_nil hx).elim
  · rw [hstale] at hx
    exact lookup_ne_of_mem_changedAhead hx

/-! ### The obligation -/

/-- Settles O7: the step ends with the prefetch after the transfer, which keeps no byte of before; settling the inputs does
not touch it. -/
theorem takenTransfersRefetch : Obligations.TakenTransfersRefetch := by
  unfold Obligations.TakenTransfersRefetch
  intro i s s1 hq hp hn hm hf htaken
  obtain ⟨t, hx⟩ := exec_next_of_takesTransfer htaken
  exact ⟨t, hx, _, step_of_fetchInstr hq hp hn hm hf hx, rfl, rfl, fun hpush => prefetchAfter_stale_eq_nil htaken hpush,
    fun _ hmem => lookup_ne_of_mem_stale_prefetchAfter htaken hmem⟩

end Sys2Proof.Machine
end

section
/-! What the decoder reads is an encoding (R108 to R114, D22): one lemma per definition of the decoder, built from one rule
per way it goes on. -/

namespace Sys2Proof

set_option Elab.async false

/-- What `F`, decoding on from the words `p`, may do: an instruction it answers is well formed and begins with `p` and what
`F` was given; and what it answers, if not that a word is missing, stays the answer when words follow. -/
structure Reads (p : List Quad) (F : List Quad → DecodeResult) : Prop where
  sound : ∀ ws i, F ws = .instr i → i.wellFormed = true ∧ encodeQuads i <+: p ++ ws
  stable : ∀ ws rest, F ws ≠ .incomplete → F (ws ++ rest) = F ws

section Rules

variable {p tl : List Quad} {F G : List Quad → DecodeResult} {i j : Instr} {b b' c c' d d' : BitVec 4}

theorem Reads.undefined : Reads p fun _ => .undefinedCode :=
  ⟨nofun, fun _ _ _ => rfl⟩

/-- The end of a code: the words read are the encoding. -/
theorem Reads.instr (hw : i.wellFormed = true) (he : encodeQuads i = p) : Reads p fun _ => .instr i where
  sound ws j h := by
    cases h
    exact ⟨hw, he ▸ List.prefix_append p ws⟩
  stable _ _ _ := rfl

theorem Reads.ite {q : Prop} [Decidable q] (h : q → Reads p F) (k : ¬q → Reads p G) :
    Reads p fun ws => if q then F ws else G ws := by
  by_cases hq : q
  · simp only [if_pos hq]; exact h hq
  · simp only [if_neg hq]; exact k hq

theorem Reads.iteInstr {q : Prop} [Decidable q] (h : q → Reads p fun _ => .instr i) (k : ¬q → Reads p fun _ => .instr j) :
    Reads p fun _ => .instr (if q then i else j) := by
  by_cases hq : q
  · rw [if_pos hq]; exact h hq
  · rw [if_neg hq]; exact k hq

theorem Reads.zero {x : BitVec 4} (h : x = 0#4 → Reads p F) : Reads p fun ws => withZero x (F ws) :=
  .ite h fun _ => .undefined

/-- The top bit of a nibble selects, and the nibble is a field under it. -/
theorem Reads.top {x : BitVec 4} (h : nib1 (nibField x) = x → Reads p F) (k : nib0 (nibField x) = x → Reads p G) :
    Reads p fun ws => if nibTop x then F ws else G ws :=
  .ite (fun ht => h (nib1_nibField x ht)) fun ht => k (nib0_nibField x (by simpa using ht))

theorem Reads.topInstr {x : BitVec 4} (h : nib1 (nibField x) = x → Reads p fun _ => .instr i)
    (k : nib0 (nibField x) = x → Reads p fun _ => .instr j) : Reads p fun _ => .instr (if nibTop x then i else j) :=
  .iteInstr (fun ht => h (nib1_nibField x ht)) fun ht => k (nib0_nibField x (by simpa using ht))

theorem Reads.er {x : BitVec 4} {f : ERn → Instr} (h : nib0 (nibField x) = x → Reads p fun _ => .instr (f (nibField x))) :
    Reads p fun _ => withER x f :=
  .top (fun _ => .undefined) h

theorem Reads.word {k : Quad → List Quad → DecodeResult} (h : ∀ a b c d, Reads (p ++ [⟨a, b, c, d⟩]) (k ⟨a, b, c, d⟩)) :
    Reads p fun ws => withWord ws k where
  sound
    | [], _, hi => nomatch hi
    | q :: ws, i, hi => by simpa using (h q.a q.b q.c q.d).sound ws i hi
  stable
    | [], _, hi => absurd rfl hi
    | q :: ws, rest, hi => (h q.a q.b q.c q.d).stable ws rest hi

theorem Reads.ext16 {f : Word → DecodeResult} (h : ∀ x, Reads (p ++ [.ofWord x]) fun _ => f x) :
    Reads p fun ws => withExt16 ws f :=
  .word fun a b c d => by simpa only [Quad.ofWord_toWord] using h (Quad.mk a b c d).toWord

theorem longHigh_longOf (x y : Word) : longHigh (longOf x y) = x := Machine.extract_high x y
theorem longLow_longOf (x y : Word) : longLow (longOf x y) = y := Machine.extract_low x y
theorem addrTop_addrOf (x : Byte) (y : Word) : addrTop (addrOf x y) = x := Machine.extract_high x y
theorem addrLow_addrOf (x : Byte) (y : Word) : addrLow (addrOf x y) = y := Machine.extract_low x y
theorem nibHi_append (x y : BitVec 4) : nibHi (x ++ y) = x := Machine.extract_high x y
theorem nibLo_append (x y : BitVec 4) : nibLo (x ++ y) = y := Machine.extract_low x y

theorem Reads.ext32 {f : Long → DecodeResult}
    (h : ∀ x, Reads (p ++ [.ofWord (longHigh x), .ofWord (longLow x)]) fun _ => f x) :
    Reads p fun ws => withExt32 ws f :=
  .word fun a b c d => .word fun a' b' c' d' => by
    simpa [longHigh_longOf, longLow_longOf, Quad.ofWord_toWord] using
      h (longOf (Quad.mk a b c d).toWord (Quad.mk a' b' c' d').toWord)

/-- The two words of a 24-bit extension (R104). -/
def addrQuads (x : Addr) : List Quad := [⟨0#4, 0#4, nibHi (addrTop x), nibLo (addrTop x)⟩, .ofWord (addrLow x)]

theorem Reads.ext24 {f : Addr → DecodeResult} (h : ∀ x, Reads (p ++ addrQuads x) fun _ => f x) :
    Reads p fun ws => withExt24 ws f :=
  .word fun a b c d => .zero fun ha => .zero fun hb => .word fun a' b' c' d' => by
    simp only at ha hb
    subst ha hb
    simpa [addrQuads, addrTop_addrOf, addrLow_addrOf, nibHi_append, nibLo_append, Quad.lowByte, Quad.ofWord_toWord] using
      h (addrOf (Quad.mk 0#4 0#4 c d).lowByte (Quad.mk a' b' c' d').toWord)

theorem Reads.one {a : BitVec 4} (he : encodeQuads i = ⟨a, b', c', d'⟩ :: tl) (hb : b' = b) (hc : c' = c) (hd : d' = d)
    (hw : i.wellFormed = true := by rfl) : Reads (⟨a, b, c, d⟩ :: tl) fun _ => .instr i :=
  .instr hw (by rw [he, hb, hc, hd])

theorem Reads.two {a : BitVec 4} {q q' : Quad} (he : encodeQuads i = q' :: ⟨a, b', c', d'⟩ :: tl) (hq : q' = q)
    (hb : b' = b) (hc : c' = c) (hd : d' = d) (hw : i.wellFormed = true := by rfl) :
    Reads (q :: ⟨a, b, c, d⟩ :: tl) fun _ => .instr i :=
  .instr hw (by rw [he, hq, hb, hc, hd])

theorem Reads.three {a : BitVec 4} {q q' r r' : Quad} (he : encodeQuads i = q' :: r' :: ⟨a, b', c', d'⟩ :: tl)
    (hq : q' = q) (hr : r' = r) (hb : b' = b) (hc : c' = c) (hd : d' = d) (hw : i.wellFormed = true := by rfl) :
    Reads (q :: r :: ⟨a, b, c, d⟩ :: tl) fun _ => .instr i :=
  .instr hw (by rw [he, hq, hr, hb, hc, hd])

/-- An 8-bit immediate, displacement or address in the second byte. -/
theorem Reads.low {a : BitVec 4} (he : encodeQuads i = ⟨a, b', nibHi (c ++ d), nibLo (c ++ d)⟩ :: tl) (hb : b' = b)
    (hw : i.wellFormed = true := by rfl) : Reads (⟨a, b, c, d⟩ :: tl) fun _ => .instr i :=
  .one he hb (nibHi_append c d) (nibLo_append c d) hw

/-- A 24-bit address whose top byte stands in the first word (JMP and JSR @aa:24). -/
theorem Reads.addrAfterByte {q : Quad} {f : Addr → Instr} (hw : ∀ x, (f x).wellFormed = true)
    (h : ∀ x, nibHi (addrTop x) = q.c → nibLo (addrTop x) = q.d → encodeQuads (f x) = [q, .ofWord (addrLow x)]) :
    Reads [q] fun ws => withWord ws fun q' _ => .instr (f (addrOf q.lowByte q'.toWord)) :=
  .word fun a b c d => .instr (hw _) (by
    rw [h _ (by rw [addrTop_addrOf]; exact nibHi_append _ _) (by rw [addrTop_addrOf]; exact nibLo_append _ _), addrLow_addrOf,
      Quad.ofWord_toWord]
    rfl)

end Rules

theorem quad_c {a b c c' d : BitVec 4} (h : c' = c) : Quad.mk a b c' d = Quad.mk a b c d := by rw [h]

theorem quad_cd {a b c c' d d' : BitVec 4} (hc : c' = c) (hd : d' = d) : Quad.mk a b c' d' = Quad.mk a b c d := by rw [hc, hd]

theorem quad_append {a b c d : BitVec 4} : Quad.mk a b (nibHi (c ++ d)) (nibLo (c ++ d)) = Quad.mk a b c d := by
  rw [nibHi_append, nibLo_append]

theorem quad_of_toWord {q : Quad} {w : Word} (h : q.toWord = w) : Quad.ofWord w = q := by rw [← h, Quad.ofWord_toWord]

theorem nibbles_of_lowByte {c d : BitVec 4} {x : Byte} (h : c ++ d = x) : nibHi x = c ∧ nibLo x = d := by
  rw [← h]; exact ⟨nibHi_append c d, nibLo_append c d⟩

/-- An address register that is not written as PUSH is not SP. -/
theorem bne_seven_of_nib1 {c : BitVec 4} (h : nib1 (nibField c) = c) (hc : c ≠ 0xF#4) : (nibField c != 7#3) = true :=
  bne_iff_ne.2 fun e => hc (h ▸ (nib1_eq_fifteen _).2 e)

/-- An address register that is not written as POP is not SP. -/
theorem bne_seven_of_nib0 {c : BitVec 4} (h : nib0 (nibField c) = c) (hc : c ≠ 0x7#4) : (nibField c != 7#3) = true :=
  bne_iff_ne.2 fun e => hc (h ▸ (nib0_eq_seven _).2 e)

theorem nibTrap_extract {c : BitVec 4} (h : c.extractLsb' 2 2 = 0#2) : nibTrap (c.extractLsb' 0 2) = c := by
  revert c; decide

/-- A nibble is one of sixteen. -/
theorem nibble_cases {P : BitVec 4 → Prop} (n0 : P 0x0#4) (n1 : P 0x1#4) (n2 : P 0x2#4) (n3 : P 0x3#4) (n4 : P 0x4#4)
    (n5 : P 0x5#4) (n6 : P 0x6#4) (n7 : P 0x7#4) (n8 : P 0x8#4) (n9 : P 0x9#4) (nA : P 0xA#4) (nB : P 0xB#4)
    (nC : P 0xC#4) (nD : P 0xD#4) (nE : P 0xE#4) (nF : P 0xF#4) (x : BitVec 4) : P x := by
  obtain ⟨⟨k, hk⟩⟩ := x
  match k, hk with
  | 0, _ => exact n0
  | 1, _ => exact n1
  | 2, _ => exact n2
  | 3, _ => exact n3
  | 4, _ => exact n4
  | 5, _ => exact n5
  | 6, _ => exact n6
  | 7, _ => exact n7
  | 8, _ => exact n8
  | 9, _ => exact n9
  | 10, _ => exact nA
  | 11, _ => exact nB
  | 12, _ => exact nC
  | 13, _ => exact nD
  | 14, _ => exact nE
  | 15, _ => exact nF
  | k + 16, h => omega

theorem decode10_reads (c d : BitVec 4) : Reads [⟨0x1#4, 0x0#4, c, d⟩] fun _ => decode10 ⟨0x1#4, 0x0#4, c, d⟩ := by
  cases c using nibble_cases with
  | n0 | n8 => exact .one rfl rfl rfl (Reg8.nib_ofNib _)
  | n1 | n9 => exact .one rfl rfl rfl (Reg16.nib_ofNib _)
  | n3 | nB => exact .er fun hd => .one rfl rfl rfl hd
  | _ => exact .undefined

theorem decode11_reads (c d : BitVec 4) : Reads [⟨0x1#4, 0x1#4, c, d⟩] fun _ => decode11 ⟨0x1#4, 0x1#4, c, d⟩ := by
  cases c using nibble_cases with
  | n0 | n8 => exact .one rfl rfl rfl (Reg8.nib_ofNib _)
  | n1 | n9 => exact .one rfl rfl rfl (Reg16.nib_ofNib _)
  | n3 | nB => exact .er fun hd => .one rfl rfl rfl hd
  | _ => exact .undefined

theorem decode12_reads (c d : BitVec 4) : Reads [⟨0x1#4, 0x2#4, c, d⟩] fun _ => decode12 ⟨0x1#4, 0x2#4, c, d⟩ := by
  cases c using nibble_cases with
  | n0 | n8 => exact .one rfl rfl rfl (Reg8.nib_ofNib _)
  | n1 | n9 => exact .one rfl rfl rfl (Reg16.nib_ofNib _)
  | n3 | nB => exact .er fun hd => .one rfl rfl rfl hd
  | _ => exact .undefined

theorem decode13_reads (c d : BitVec 4) : Reads [⟨0x1#4, 0x3#4, c, d⟩] fun _ => decode13 ⟨0x1#4, 0x3#4, c, d⟩ := by
  cases c using nibble_cases with
  | n0 | n8 => exact .one rfl rfl rfl (Reg8.nib_ofNib _)
  | n1 | n9 => exact .one rfl rfl rfl (Reg16.nib_ofNib _)
  | n3 | nB => exact .er fun hd => .one rfl rfl rfl hd
  | _ => exact .undefined

theorem decode17_reads (c d : BitVec 4) : Reads [⟨0x1#4, 0x7#4, c, d⟩] fun _ => decode17 ⟨0x1#4, 0x7#4, c, d⟩ := by
  cases c using nibble_cases with
  | n0 | n8 => exact .one rfl rfl rfl (Reg8.nib_ofNib _)
  | n1 | n5 | n9 | nD => exact .one rfl rfl rfl (Reg16.nib_ofNib _)
  | n3 | n7 | nB | nF => exact .er fun hd => .one rfl rfl rfl hd
  | _ => exact .undefined

theorem decode0B_reads (c d : BitVec 4) : Reads [⟨0x0#4, 0xB#4, c, d⟩] fun _ => decode0B ⟨0x0#4, 0xB#4, c, d⟩ := by
  cases c using nibble_cases with
  | n0 | n7 | n8 | n9 | nF => exact .er fun hd => .one rfl rfl rfl hd
  | n5 | nD => exact .one rfl rfl rfl (Reg16.nib_ofNib _)
  | _ => exact .undefined

theorem decode1B_reads (c d : BitVec 4) : Reads [⟨0x1#4, 0xB#4, c, d⟩] fun _ => decode1B ⟨0x1#4, 0xB#4, c, d⟩ := by
  cases c using nibble_cases with
  | n0 | n7 | n8 | n9 | nF => exact .er fun hd => .one rfl rfl rfl hd
  | n5 | nD => exact .one rfl rfl rfl (Reg16.nib_ofNib _)
  | _ => exact .undefined

theorem decode01C0_reads (a b c d : BitVec 4) :
    Reads [⟨0x0#4, 0x1#4, 0xC#4, 0x0#4⟩, ⟨a, b, c, d⟩] fun _ => decode01C0 ⟨a, b, c, d⟩ := by
  cases a using nibble_cases with
  | n5 =>
    cases b using nibble_cases with
    | n0 => exact .two rfl rfl rfl (Reg8.nib_ofNib _) (Reg16.nib_ofNib _)
    | n2 => exact .er fun hd => .two rfl rfl rfl (Reg16.nib_ofNib _) hd
    | _ => exact .undefined
  | _ => exact .undefined

theorem decode01D0_reads (a b c d : BitVec 4) :
    Reads [⟨0x0#4, 0x1#4, 0xD#4, 0x0#4⟩, ⟨a, b, c, d⟩] fun _ => decode01D0 ⟨a, b, c, d⟩ := by
  cases a using nibble_cases with
  | n5 =>
    cases b using nibble_cases with
    | n1 => exact .two rfl rfl rfl (Reg8.nib_ofNib _) (Reg16.nib_ofNib _)
    | n3 => exact .er fun hd => .two rfl rfl rfl (Reg16.nib_ofNib _) hd
    | _ => exact .undefined
  | _ => exact .undefined

theorem decode01F0_reads (a b c d : BitVec 4) :
    Reads [⟨0x0#4, 0x1#4, 0xF#4, 0x0#4⟩, ⟨a, b, c, d⟩] fun _ => decode01F0 ⟨a, b, c, d⟩ := by
  refine .top (fun _ => .undefined) fun hc => ?_
  cases a using nibble_cases with
  | n6 =>
    cases b using nibble_cases with
    | n4 | n5 | n6 => exact .er fun hd => .two rfl rfl rfl hc hd
    | _ => exact .undefined
  | _ => exact .undefined

/-- MOV.L between memory and a register: the words after `0100`. -/
theorem decode0100_reads (a b c d : BitVec 4) :
    Reads [⟨0x0#4, 0x1#4, 0x0#4, 0x0#4⟩, ⟨a, b, c, d⟩] (decode0100 ⟨a, b, c, d⟩) := by
  cases a using nibble_cases with
  | n6 =>
    cases b using nibble_cases with
    | n9 => exact .top (fun hc => .er fun hd => .two rfl rfl rfl hc hd) fun hc => .er fun hd => .two rfl rfl rfl hc hd
    | nB =>
      cases c using nibble_cases with
      | n0 | n8 => exact .top (fun _ => .undefined) fun hd => .ext16 fun x => .two rfl rfl rfl rfl hd
      | n2 | nA => exact .top (fun _ => .undefined) fun hd => .ext24 fun x => .two rfl rfl rfl rfl hd
      | _ => exact .undefined
    | nD =>
      exact .ite (fun h7 => .er fun hd => .two rfl rfl rfl h7.symm hd) fun h7 =>
        .ite (fun hF => .er fun hd => .two rfl rfl rfl hF.symm hd) fun hF =>
        .top (fun hc => .er fun hd => .two rfl rfl rfl hc hd (bne_seven_of_nib1 hc hF)) fun hc =>
        .er fun hd => .two rfl rfl rfl hc hd (bne_seven_of_nib0 hc h7)
    | nF =>
      exact .top (fun _ => .undefined) fun hd => .ext16 fun x =>
        .topInstr (fun hc => .two rfl rfl rfl hc hd) fun hc => .two rfl rfl rfl hc hd
    | _ => exact .undefined
  | n7 =>
    cases b using nibble_cases with
    | n8 =>
      refine .top (fun _ => .undefined) fun hc => .zero fun hd => .word fun a' b' c' d' => ?_
      subst hd
      cases a' using nibble_cases with
      | n6 =>
        cases b' using nibble_cases with
        | nB =>
          cases c' using nibble_cases with
          | n2 | nA => exact .top (fun _ => .undefined) fun hd => .ext24 fun x => .three rfl rfl (quad_c hc) rfl rfl hd
          | _ => exact .undefined
        | _ => exact .undefined
      | _ => exact .undefined
    | _ => exact .undefined
  | _ => exact .undefined

/-- LDC.W and STC.W: the words after `0140`. -/
theorem decode0140_reads (a b c d : BitVec 4) :
    Reads [⟨0x0#4, 0x1#4, 0x4#4, 0x0#4⟩, ⟨a, b, c, d⟩] (decode0140 ⟨a, b, c, d⟩) := by
  cases a using nibble_cases with
  | n6 =>
    cases b using nibble_cases with
    | n9 | nD =>
      exact .zero fun hd => .topInstr (fun hc => .two rfl rfl rfl hc hd.symm) fun hc => .two rfl rfl rfl hc hd.symm
    | nB =>
      refine .zero fun hd => ?_
      cases c using nibble_cases with
      | n0 | n8 => exact .ext16 fun x => .two rfl rfl rfl rfl hd.symm
      | n2 | nA => exact .ext24 fun x => .two rfl rfl rfl rfl hd.symm
      | _ => exact .undefined
    | nF =>
      exact .zero fun hd => .ext16 fun x =>
        .topInstr (fun hc => .two rfl rfl rfl hc hd.symm) fun hc => .two rfl rfl rfl hc hd.symm
    | _ => exact .undefined
  | n7 =>
    cases b using nibble_cases with
    | n8 =>
      refine .top (fun _ => .undefined) fun hc => .zero fun hd => .word fun a' b' c' d' => ?_
      subst hd
      cases a' using nibble_cases with
      | n6 =>
        cases b' using nibble_cases with
        | nB =>
          cases c' using nibble_cases with
          | n2 | nA => exact .zero fun hd => .ext24 fun x => .three rfl rfl (quad_c hc) rfl rfl hd.symm
          | _ => exact .undefined
        | _ => exact .undefined
      | _ => exact .undefined
    | _ => exact .undefined
  | _ => exact .undefined

theorem decode01_reads (c d : BitVec 4) : Reads [⟨0x0#4, 0x1#4, c, d⟩] (decode01 ⟨0x0#4, 0x1#4, c, d⟩) := by
  refine .zero fun hd => ?_
  subst hd
  cases c using nibble_cases with
  | n0 => exact .word decode0100_reads
  | n4 => exact .word decode0140_reads
  | n8 => exact .instr rfl rfl
  | nC => exact .word decode01C0_reads
  | nD => exact .word decode01D0_reads
  | nF => exact .word decode01F0_reads
  | _ => exact .undefined

theorem decode0_reads (b c d : BitVec 4) : Reads [⟨0x0#4, b, c, d⟩] (decode0 ⟨0x0#4, b, c, d⟩) := by
  cases b using nibble_cases with
  | n0 => exact .zero fun hc => .zero fun hd => .one rfl rfl hc.symm hd.symm
  | n1 => exact decode01_reads c d
  | n2 | n3 => exact .zero fun hc => .one rfl rfl hc.symm (Reg8.nib_ofNib _)
  | n4 | n5 | n6 | n7 => exact .low rfl rfl
  | n8 | nC | nE => exact .one rfl rfl (Reg8.nib_ofNib _) (Reg8.nib_ofNib _)
  | n9 | nD => exact .one rfl rfl (Reg16.nib_ofNib _) (Reg16.nib_ofNib _)
  | nA | nF =>
    exact .top (fun hc => .er fun hd => .one rfl rfl hc hd) fun _ => .zero fun hc =>
      .one rfl rfl hc.symm (Reg8.nib_ofNib _)
  | nB => exact decode0B_reads c d

theorem decode1_reads (b c d : BitVec 4) : Reads [⟨0x1#4, b, c, d⟩] fun _ => decode1 ⟨0x1#4, b, c, d⟩ := by
  cases b using nibble_cases with
  | n0 => exact decode10_reads c d
  | n1 => exact decode11_reads c d
  | n2 => exact decode12_reads c d
  | n3 => exact decode13_reads c d
  | n4 | n5 | n6 | n8 | nC | nE => exact .one rfl rfl (Reg8.nib_ofNib _) (Reg8.nib_ofNib _)
  | n7 => exact decode17_reads c d
  | n9 | nD => exact .one rfl rfl (Reg16.nib_ofNib _) (Reg16.nib_ofNib _)
  | nA | nF =>
    exact .top (fun hc => .er fun hd => .one rfl rfl hc hd) fun _ => .zero fun hc =>
      .one rfl rfl hc.symm (Reg8.nib_ofNib _)
  | nB => exact decode1B_reads c d

/-- Bcc d:8: every condition is one. -/
theorem decode4_reads (b c d : BitVec 4) : Reads [⟨0x4#4, b, c, d⟩] fun _ => .instr (decode4 ⟨0x4#4, b, c, d⟩) := by
  cases b using nibble_cases <;> exact .low rfl rfl

/-- Bcc d:16: every condition is one. -/
theorem bccD16_reads (c : BitVec 4) (x : Word) :
    Reads [⟨0x5#4, 0x8#4, c, 0x0#4⟩, .ofWord x] fun _ => .instr (Sys2Proof.bccD16 c x) := by
  cases c using nibble_cases <;> exact .instr rfl rfl

theorem decode5_reads (b c d : BitVec 4) : Reads [⟨0x5#4, b, c, d⟩] (decode5 ⟨0x5#4, b, c, d⟩) := by
  cases b using nibble_cases with
  | n0 | n1 => exact .one rfl rfl (Reg8.nib_ofNib _) (Reg16.nib_ofNib _)
  | n2 | n3 => exact .er fun hd => .one rfl rfl (Reg16.nib_ofNib _) hd
  | n4 | n6 => exact .ite (fun hc => .zero fun hd => .one rfl rfl hc.symm hd.symm) fun _ => .undefined
  | n5 | nB | nF => exact .low rfl rfl
  | n7 => exact .ite (fun hc => .zero fun hd => .one rfl rfl (nibTrap_extract hc) hd.symm) fun _ => .undefined
  | n8 => exact .zero fun hd => .ext16 fun x => by subst hd; exact bccD16_reads c x
  | n9 | nD => exact .zero fun hd => .er fun hc => .one rfl rfl hc hd.symm
  | nA | nE => exact .addrAfterByte (fun _ => rfl) fun x hc hd => congrArg (· :: _) (quad_cd hc hd)
  | nC => exact .zero fun hc => .zero fun hd => .ext16 fun x => .one rfl rfl hc.symm hd.symm

theorem decode6A_reads (c d : BitVec 4) : Reads [⟨0x6#4, 0xA#4, c, d⟩] (decode6A ⟨0x6#4, 0xA#4, c, d⟩) := by
  unfold decode6A
  cases c using nibble_cases with
  | n0 | n4 | n8 | nC => exact .ext16 fun x => .one rfl rfl rfl (Reg8.nib_ofNib _)
  | n2 | nA => exact .ext24 fun x => .one rfl rfl rfl (Reg8.nib_ofNib _)
  | _ => exact .undefined

theorem decode6B_reads (c d : BitVec 4) : Reads [⟨0x6#4, 0xB#4, c, d⟩] (decode6B ⟨0x6#4, 0xB#4, c, d⟩) := by
  unfold decode6B
  cases c using nibble_cases with
  | n0 | n8 => exact .ext16 fun x => .one rfl rfl rfl (Reg16.nib_ofNib _)
  | n2 | nA => exact .ext24 fun x => .one rfl rfl rfl (Reg16.nib_ofNib _)
  | _ => exact .undefined

theorem decode6_reads (b c d : BitVec 4) : Reads [⟨0x6#4, b, c, d⟩] (decode6 ⟨0x6#4, b, c, d⟩) := by
  unfold decode6
  cases b using nibble_cases with
  | n0 | n1 | n2 | n3 => exact .one rfl rfl (Reg8.nib_ofNib _) (Reg8.nib_ofNib _)
  | n4 | n5 | n6 => exact .one rfl rfl (Reg16.nib_ofNib _) (Reg16.nib_ofNib _)
  | n7 => exact .topInstr (fun hc => .one rfl rfl hc (Reg8.nib_ofNib _)) fun hc => .one rfl rfl hc (Reg8.nib_ofNib _)
  | n8 | nC =>
    exact .topInstr (fun hc => .one rfl rfl hc (Reg8.nib_ofNib _)) fun hc => .one rfl rfl hc (Reg8.nib_ofNib _)
  | n9 => exact .topInstr (fun hc => .one rfl rfl hc (Reg16.nib_ofNib _)) fun hc => .one rfl rfl hc (Reg16.nib_ofNib _)
  | nA => exact decode6A_reads c d
  | nB => exact decode6B_reads c d
  | nD =>
    exact .iteInstr (fun h7 => .one rfl rfl h7.symm (Reg16.nib_ofNib _)) fun h7 =>
      .iteInstr (fun hF => .one rfl rfl hF.symm (Reg16.nib_ofNib _)) fun hF =>
      .topInstr (fun hc => .one rfl rfl hc (Reg16.nib_ofNib _) (bne_seven_of_nib1 hc hF)) fun hc =>
      .one rfl rfl hc (Reg16.nib_ofNib _) (bne_seven_of_nib0 hc h7)
  | nE =>
    exact .ext16 fun x =>
      .topInstr (fun hc => .one rfl rfl hc (Reg8.nib_ofNib _)) fun hc => .one rfl rfl hc (Reg8.nib_ofNib _)
  | nF =>
    exact .ext16 fun x =>
      .topInstr (fun hc => .one rfl rfl hc (Reg16.nib_ofNib _)) fun hc => .one rfl rfl hc (Reg16.nib_ofNib _)

theorem decode78_reads {r : BitVec 4} (hr : nib0 (nibField r) = r) (a b c d : BitVec 4) :
    Reads [⟨0x7#4, 0x8#4, r, 0x0#4⟩, ⟨a, b, c, d⟩] (decode78 (nibField r) ⟨a, b, c, d⟩) := by
  unfold decode78
  cases a using nibble_cases with
  | n6 =>
    cases b using nibble_cases with
    | nA =>
      cases c using nibble_cases with
      | n2 | nA => exact .ext24 fun x => .two rfl (quad_c hr) rfl rfl (Reg8.nib_ofNib _)
      | _ => exact .undefined
    | nB =>
      cases c using nibble_cases with
      | n2 | nA => exact .ext24 fun x => .two rfl (quad_c hr) rfl rfl (Reg16.nib_ofNib _)
      | _ => exact .undefined
    | _ => exact .undefined
  | _ => exact .undefined

theorem decode79_reads (c d : BitVec 4) (x : Word) :
    Reads [⟨0x7#4, 0x9#4, c, d⟩, .ofWord x] fun _ => decode79 ⟨0x7#4, 0x9#4, c, d⟩ x := by
  cases c using nibble_cases with
  | n0 | n1 | n2 | n3 | n4 | n5 | n6 => exact .one rfl rfl rfl (Reg16.nib_ofNib _)
  | _ => exact .undefined

theorem decode7A_reads (c d : BitVec 4) (x : Long) :
    Reads [⟨0x7#4, 0xA#4, c, d⟩, .ofWord (longHigh x), .ofWord (longLow x)] fun _ => decode7A ⟨0x7#4, 0xA#4, c, d⟩ x := by
  cases c using nibble_cases with
  | n0 | n1 | n2 | n3 | n4 | n5 | n6 => exact .er fun hd => .one rfl rfl rfl hd
  | _ => exact .undefined

/-- EEPMOV is two fixed words. -/
theorem decode7B_reads (c d : BitVec 4) : Reads [⟨0x7#4, 0xB#4, c, d⟩] (decode7B ⟨0x7#4, 0xB#4, c, d⟩) := by
  refine .ite (fun h => .word fun a' b' c' d' => .ite (fun k => ?_) fun _ => .undefined) fun _ =>
    .ite (fun h => .word fun a' b' c' d' => .ite (fun k => ?_) fun _ => .undefined) fun _ => .undefined
  all_goals
    obtain ⟨rfl, rfl⟩ := nibbles_of_lowByte h
    exact .instr rfl (congrArg (fun q => [_, q]) (quad_of_toWord k))

theorem decode7C_reads {r : BitVec 4} (hr : nib0 (nibField r) = r) (a b c d : BitVec 4) :
    Reads [⟨0x7#4, 0xC#4, r, 0x0#4⟩, ⟨a, b, c, d⟩] fun _ => decode7C (nibField r) ⟨a, b, c, d⟩ := by
  refine .zero fun hd => ?_
  cases a using nibble_cases with
  | n6 =>
    cases b using nibble_cases with
    | n3 => exact .two rfl (quad_c hr) rfl (Reg8.nib_ofNib _) hd.symm
    | _ => exact .undefined
  | n7 =>
    cases b using nibble_cases with
    | n3 => exact .er fun hc => .two rfl (quad_c hr) rfl hc hd.symm
    | n4 | n5 | n6 | n7 =>
      exact .topInstr (fun hc => .two rfl (quad_c hr) rfl hc hd.symm) fun hc => .two rfl (quad_c hr) rfl hc hd.symm
    | _ => exact .undefined
  | _ => exact .undefined

theorem decode7D_reads {r : BitVec 4} (hr : nib0 (nibField r) = r) (a b c d : BitVec 4) :
    Reads [⟨0x7#4, 0xD#4, r, 0x0#4⟩, ⟨a, b, c, d⟩] fun _ => decode7D (nibField r) ⟨a, b, c, d⟩ := by
  refine .zero fun hd => ?_
  cases a using nibble_cases with
  | n6 =>
    cases b using nibble_cases with
    | n0 | n1 | n2 => exact .two rfl (quad_c hr) rfl (Reg8.nib_ofNib _) hd.symm
    | n7 =>
      exact .topInstr (fun hc => .two rfl (quad_c hr) rfl hc hd.symm) fun hc => .two rfl (quad_c hr) rfl hc hd.symm
    | _ => exact .undefined
  | n7 =>
    cases b using nibble_cases with
    | n0 | n1 | n2 => exact .er fun hc => .two rfl (quad_c hr) rfl hc hd.symm
    | _ => exact .undefined
  | _ => exact .undefined

theorem decode7E_reads (aH aL a b c d : BitVec 4) :
    Reads [⟨0x7#4, 0xE#4, aH, aL⟩, ⟨a, b, c, d⟩] fun _ => decode7E (aH ++ aL) ⟨a, b, c, d⟩ := by
  refine .zero fun hd => ?_
  cases a using nibble_cases with
  | n6 =>
    cases b using nibble_cases with
    | n3 => exact .two rfl quad_append rfl (Reg8.nib_ofNib _) hd.symm
    | _ => exact .undefined
  | n7 =>
    cases b using nibble_cases with
    | n3 => exact .er fun hc => .two rfl quad_append rfl hc hd.symm
    | n4 | n5 | n6 | n7 =>
      exact .topInstr (fun hc => .two rfl quad_append rfl hc hd.symm) fun hc => .two rfl quad_append rfl hc hd.symm
    | _ => exact .undefined
  | _ => exact .undefined

theorem decode7F_reads (aH aL a b c d : BitVec 4) :
    Reads [⟨0x7#4, 0xF#4, aH, aL⟩, ⟨a, b, c, d⟩] fun _ => decode7F (aH ++ aL) ⟨a, b, c, d⟩ := by
  refine .zero fun hd => ?_
  cases a using nibble_cases with
  | n6 =>
    cases b using nibble_cases with
    | n0 | n1 | n2 => exact .two rfl quad_append rfl (Reg8.nib_ofNib _) hd.symm
    | n7 =>
      exact .topInstr (fun hc => .two rfl quad_append rfl hc hd.symm) fun hc => .two rfl quad_append rfl hc hd.symm
    | _ => exact .undefined
  | n7 =>
    cases b using nibble_cases with
    | n0 | n1 | n2 => exact .er fun hc => .two rfl quad_append rfl hc hd.symm
    | _ => exact .undefined
  | _ => exact .undefined

theorem decodeBit7Reg_reads (b c d : BitVec 4) : Reads [⟨0x7#4, b, c, d⟩] fun _ => decodeBit7Reg b c d := by
  unfold decodeBit7Reg
  cases b using nibble_cases with
  | n0 | n1 | n2 | n3 => exact .er fun hc => .one rfl rfl hc (Reg8.nib_ofNib _)
  | n4 | n5 | n6 | n7 =>
    exact .topInstr (fun hc => .one rfl rfl hc (Reg8.nib_ofNib _)) fun hc => .one rfl rfl hc (Reg8.nib_ofNib _)
  | _ => exact .undefined

theorem decode7_reads (b c d : BitVec 4) : Reads [⟨0x7#4, b, c, d⟩] (decode7 ⟨0x7#4, b, c, d⟩) := by
  unfold decode7
  cases b using nibble_cases with
  | n0 | n1 | n2 | n3 | n4 | n5 | n6 | n7 => exact decodeBit7Reg_reads _ c d
  | n8 => exact .top (fun _ => .undefined) fun hc => .zero fun hd => .word (by subst hd; exact decode78_reads hc)
  | n9 => exact .ite (fun _ => .ext16 fun x => decode79_reads c d x) fun _ => .undefined
  | nA => exact .ite (fun _ => .ext32 fun x => decode7A_reads c d x) fun _ => .undefined
  | nB => exact decode7B_reads c d
  | nC => exact .top (fun _ => .undefined) fun hc => .zero fun hd => .word (by subst hd; exact decode7C_reads hc)
  | nD => exact .top (fun _ => .undefined) fun hc => .zero fun hd => .word (by subst hd; exact decode7D_reads hc)
  | nE => exact .word (decode7E_reads c d)
  | nF => exact .word (decode7F_reads c d)

/-- The whole decoder: the first level of the operation code map (R110). -/
theorem decodeQuads_reads : Reads [] decodeQuads := by
  refine .word fun a b c d => ?_
  cases a using nibble_cases with
  | n0 => exact decode0_reads b c d
  | n1 => exact decode1_reads b c d
  | n2 | n3 => exact .low rfl (Reg8.nib_ofNib _)
  | n4 => exact decode4_reads b c d
  | n5 => exact decode5_reads b c d
  | n6 => exact decode6_reads b c d
  | n7 => exact decode7_reads b c d
  | n8 | n9 | nA | nB | nC | nD | nE | nF => exact .low rfl (Reg8.nib_ofNib _)

end Sys2Proof
end

section
/-! What an encoding is decoded to (R100 to R119). -/

namespace Sys2Proof
set_option Elab.async false

section Rules

variable {q : Prop} [Decidable q] {x y r : DecodeResult} {i j : Instr}

theorem decoded_pos (h : q) (k : x = r) : (if q then x else y) = r :=
  (if_pos h).trans k

theorem decoded_neg (h : ¬q) (k : y = r) : (if q then x else y) = r :=
  (if_neg h).trans k

theorem decoded_instr_pos (h : q) (k : .instr i = r) : DecodeResult.instr (if q then i else j) = r := by
  rw [if_pos h, k]

theorem decoded_instr_neg (h : ¬q) (k : .instr j = r) : DecodeResult.instr (if q then i else j) = r := by
  rw [if_neg h, k]

theorem decoded_one {α : Type} {f : α → Instr} {a a' : α} (ha : a = a') :
    DecodeResult.instr (f a) = .instr (f a') := by
  rw [ha]

theorem decoded_two {α β : Type} {f : α → β → Instr} {a a' : α} {b b' : β} (ha : a = a') (hb : b = b') :
    DecodeResult.instr (f a b) = .instr (f a' b') := by
  rw [ha, hb]

theorem decoded_three {α β γ : Type} {f : α → β → γ → Instr} {a a' : α} {b b' : β} {c c' : γ} (ha : a = a') (hb : b = b')
    (hc : c = c') : DecodeResult.instr (f a b c) = .instr (f a' b' c') := by
  rw [ha, hb, hc]

end Rules

theorem nib0_low (n : BitVec 3) : ¬nibTop (nib0 n) = true :=
  Bool.eq_false_iff.1 (nibTop_nib0 n)

theorem zero_low : ¬nibTop 0x0#4 = true := by decide

theorem fifteen_ne_seven : 0xF#4 ≠ 0x7#4 := by decide

theorem nib0_ne_seven {n : BitVec 3} (h : (n != 7#3) = true) : nib0 n ≠ 0x7#4 :=
  fun e => bne_iff_ne.1 h ((nib0_eq_seven n).1 e)

theorem nib1_ne_fifteen {n : BitVec 3} (h : (n != 7#3) = true) : nib1 n ≠ 0xF#4 :=
  fun e => bne_iff_ne.1 h ((nib1_eq_fifteen n).1 e)

/-- The operand fields of a word or of two words, read back. -/
theorem decoded_long (x : Long) :
    longOf (Quad.ofWord (longHigh x)).toWord (Quad.ofWord (longLow x)).toWord = x := by
  rw [Quad.toWord_ofWord, Quad.toWord_ofWord, longOf_parts]

theorem decoded_addr (x : Addr) :
    addrOf (nibHi (addrTop x) ++ nibLo (addrTop x)) (Quad.ofWord (addrLow x)).toWord = x := by
  rw [byte_of_nibbles, Quad.toWord_ofWord, addrOf_parts]

theorem nibTrap_high (x : BitVec 2) : (nibTrap x).extractLsb' 2 2 = 0#2 := by revert x; decide

theorem nibTrap_low (x : BitVec 2) : (nibTrap x).extractLsb' 0 2 = x := by revert x; decide

/-- Every encoding is decoded to its instruction, each field on its own: a fixed bit selects a branch of the decoder, and
what stands in the field is the operand. -/
theorem decodeQuads_encodeQuads (ws : List Quad) (i : Instr) (hw : i.wellFormed = true) :
    decodeQuads (encodeQuads i ++ ws) = .instr i := by
  cases i with
  -- an 8-bit extension
  | movBImm | movBLoadAbs8 | addBImm | addxImm | cmpBImm | subxImm | andBImm | orBImm | xorBImm =>
    exact decoded_two (byte_of_nibbles _) (Reg8.ofNib_nib _)
  | movBStoreAbs8 => exact decoded_two (Reg8.ofNib_nib _) (byte_of_nibbles _)
  | braD8 | brnD8 | bhiD8 | blsD8 | bccD8 | bcsD8 | bneD8 | beqD8 | bvcD8 | bvsD8 | bplD8 | bmiD8 | bgeD8 | bltD8 | bgtD8
  | bleD8 | bsrD8 | jmpMemInd | jsrMemInd | ldcBImm | andc | orc | xorc =>
    exact decoded_one (byte_of_nibbles _)
  -- no field, or a fixed word only
  | rts | rte | sleep | nop | eepmovB | eepmovW => rfl
  | trapa => exact decoded_pos (nibTrap_high _) (decoded_one (nibTrap_low _))
  -- registers in one word
  | movBReg | addBReg | addxReg | cmpBReg | subBReg | subxReg | andBReg | orBReg | xorBReg | bsetRegReg | bclrRegReg
  | bnotRegReg | btstRegReg =>
    exact decoded_two (Reg8.ofNib_nib _) (Reg8.ofNib_nib _)
  | divxuBReg | mulxuBReg | divxsBReg | mulxsBReg => exact decoded_two (Reg8.ofNib_nib _) (Reg16.ofNib_nib _)
  | daa | das | decB | incB => exact decoded_neg zero_low (decoded_one (Reg8.ofNib_nib _))
  | negB | notB | shalB | sharB | shllB | shlrB | rotlB | rotrB | rotxlB | rotxrB | ldcBReg | stcBReg =>
    exact decoded_one (Reg8.ofNib_nib _)
  | decW1 | decW2 | extsW | extuW | incW1 | incW2 | negW | notW | shalW | sharW | shllW | shlrW | rotlW | rotrW | rotxlW
  | rotxrW | popW =>
    exact decoded_one (Reg16.ofNib_nib _)
  | adds1 | adds2 | adds4 | subs1 | subs2 | subs4 | decL1 | decL2 | incL1 | incL2 | extsL | extuL | negL | notL | shalL | sharL
  | shllL | shlrL | rotlL | rotrL | rotxlL | rotxrL | pushL | popL =>
    exact decoded_neg (nib0_low _) (decoded_one (nibField_nib0 _))
  | movLReg | addLReg | cmpLReg | subLReg =>
    exact decoded_pos (nibTop_nib1 _) (decoded_neg (nib0_low _) (decoded_two (nibField_nib1 _) (nibField_nib0 _)))
  | andLReg | orLReg | xorLReg =>
    exact decoded_neg (nib0_low _) (decoded_neg (nib0_low _) (decoded_two (nibField_nib0 _) (nibField_nib0 _)))
  | pushW =>
    exact decoded_instr_neg fifteen_ne_seven (decoded_instr_pos rfl (decoded_one (Reg16.ofNib_nib _)))
  | divxuWReg | mulxuWReg | divxsWReg | mulxsWReg =>
    exact decoded_neg (nib0_low _) (decoded_two (Reg16.ofNib_nib _) (nibField_nib0 _))
  | jmpInd | jsrInd => exact decoded_neg (nib0_low _) (decoded_one (nibField_nib0 _))
  -- an extension of one, two or three words
  | movBLoadAbs16 | movfpe => exact decoded_two (Quad.toWord_ofWord _) (Reg8.ofNib_nib _)
  | movWImm | movWLoadAbs16 | addWImm | cmpWImm | subWImm | andWImm | orWImm | xorWImm =>
    exact decoded_two (Quad.toWord_ofWord _) (Reg16.ofNib_nib _)
  | movBStoreAbs16 | movtpe => exact decoded_two (Reg8.ofNib_nib _) (Quad.toWord_ofWord _)
  | movWStoreAbs16 => exact decoded_two (Reg16.ofNib_nib _) (Quad.toWord_ofWord _)
  | movBLoadAbs24 => exact decoded_two (decoded_addr _) (Reg8.ofNib_nib _)
  | movWLoadAbs24 => exact decoded_two (decoded_addr _) (Reg16.ofNib_nib _)
  | movBStoreAbs24 => exact decoded_two (Reg8.ofNib_nib _) (decoded_addr _)
  | movWStoreAbs24 => exact decoded_two (Reg16.ofNib_nib _) (decoded_addr _)
  | movLImm | addLImm | cmpLImm | subLImm | andLImm | orLImm | xorLImm =>
    exact decoded_pos (congrArg (!·) (nibTop_nib0 _))
      (decoded_neg (nib0_low _) (decoded_two (decoded_long _) (nibField_nib0 _)))
  | braD16 | brnD16 | bhiD16 | blsD16 | bccD16 | bcsD16 | bneD16 | beqD16 | bvcD16 | bvsD16 | bplD16 | bmiD16 | bgeD16
  | bltD16 | bgtD16 | bleD16 | bsrD16 | ldcWLoadAbs16 | stcWStoreAbs16 =>
    exact decoded_one (Quad.toWord_ofWord _)
  | jmpAbs24 | jsrAbs24 | ldcWLoadAbs24 | stcWStoreAbs24 => exact decoded_one (decoded_addr _)
  -- loads and stores of a byte or word through an address register
  | movBLoadInd | movBLoadPostInc =>
    exact decoded_instr_neg (nib0_low _) (decoded_two (nibField_nib0 _) (Reg8.ofNib_nib _))
  | movWLoadInd => exact decoded_instr_neg (nib0_low _) (decoded_two (nibField_nib0 _) (Reg16.ofNib_nib _))
  | movBStoreInd | movBStorePreDec =>
    exact decoded_instr_pos (nibTop_nib1 _) (decoded_two (Reg8.ofNib_nib _) (nibField_nib1 _))
  | movWStoreInd => exact decoded_instr_pos (nibTop_nib1 _) (decoded_two (Reg16.ofNib_nib _) (nibField_nib1 _))
  | movWLoadPostInc =>
    exact decoded_instr_neg (nib0_ne_seven hw) (decoded_instr_neg (nib0_ne_fifteen _) (decoded_instr_neg (nib0_low _)
      (decoded_two (nibField_nib0 _) (Reg16.ofNib_nib _))))
  | movWStorePreDec =>
    exact decoded_instr_neg (nib1_ne_seven _) (decoded_instr_neg (nib1_ne_fifteen hw) (decoded_instr_pos (nibTop_nib1 _)
      (decoded_two (Reg16.ofNib_nib _) (nibField_nib1 _))))
  | movBLoadDisp16 =>
    exact decoded_instr_neg (nib0_low _) (decoded_three (Quad.toWord_ofWord _) (nibField_nib0 _) (Reg8.ofNib_nib _))
  | movWLoadDisp16 =>
    exact decoded_instr_neg (nib0_low _) (decoded_three (Quad.toWord_ofWord _) (nibField_nib0 _) (Reg16.ofNib_nib _))
  | movBStoreDisp16 =>
    exact decoded_instr_pos (nibTop_nib1 _) (decoded_three (Reg8.ofNib_nib _) (Quad.toWord_ofWord _) (nibField_nib1 _))
  | movWStoreDisp16 =>
    exact decoded_instr_pos (nibTop_nib1 _) (decoded_three (Reg16.ofNib_nib _) (Quad.toWord_ofWord _) (nibField_nib1 _))
  | movBLoadDisp24 =>
    exact decoded_neg (nib0_low _) (decoded_three (decoded_addr _) (nibField_nib0 _) (Reg8.ofNib_nib _))
  | movWLoadDisp24 =>
    exact decoded_neg (nib0_low _) (decoded_three (decoded_addr _) (nibField_nib0 _) (Reg16.ofNib_nib _))
  | movBStoreDisp24 =>
    exact decoded_neg (nib0_low _) (decoded_three (Reg8.ofNib_nib _) (decoded_addr _) (nibField_nib0 _))
  | movWStoreDisp24 =>
    exact decoded_neg (nib0_low _) (decoded_three (Reg16.ofNib_nib _) (decoded_addr _) (nibField_nib0 _))
  -- loads and stores of a longword
  | movLLoadInd => exact decoded_neg (nib0_low _) (decoded_neg (nib0_low _) (decoded_two (nibField_nib0 _) (nibField_nib0 _)))
  | movLStoreInd =>
    exact decoded_pos (nibTop_nib1 _) (decoded_neg (nib0_low _) (decoded_two (nibField_nib0 _) (nibField_nib1 _)))
  | movLLoadPostInc =>
    exact decoded_neg (nib0_ne_seven hw) (decoded_neg (nib0_ne_fifteen _) (decoded_neg (nib0_low _)
      (decoded_neg (nib0_low _) (decoded_two (nibField_nib0 _) (nibField_nib0 _)))))
  | movLStorePreDec =>
    exact decoded_neg (nib1_ne_seven _) (decoded_neg (nib1_ne_fifteen hw) (decoded_pos (nibTop_nib1 _)
      (decoded_neg (nib0_low _) (decoded_two (nibField_nib0 _) (nibField_nib1 _)))))
  | movLLoadAbs16 => exact decoded_neg (nib0_low _) (decoded_two (Quad.toWord_ofWord _) (nibField_nib0 _))
  | movLLoadAbs24 => exact decoded_neg (nib0_low _) (decoded_two (decoded_addr _) (nibField_nib0 _))
  | movLStoreAbs16 => exact decoded_neg (nib0_low _) (decoded_two (nibField_nib0 _) (Quad.toWord_ofWord _))
  | movLStoreAbs24 => exact decoded_neg (nib0_low _) (decoded_two (nibField_nib0 _) (decoded_addr _))
  | movLLoadDisp16 =>
    exact decoded_neg (nib0_low _) (decoded_instr_neg (nib0_low _)
      (decoded_three (Quad.toWord_ofWord _) (nibField_nib0 _) (nibField_nib0 _)))
  | movLStoreDisp16 =>
    exact decoded_neg (nib0_low _) (decoded_instr_pos (nibTop_nib1 _)
      (decoded_three (nibField_nib0 _) (Quad.toWord_ofWord _) (nibField_nib1 _)))
  | movLLoadDisp24 =>
    exact decoded_neg (nib0_low _) (decoded_pos rfl (decoded_neg (nib0_low _)
      (decoded_three (decoded_addr _) (nibField_nib0 _) (nibField_nib0 _))))
  | movLStoreDisp24 =>
    exact decoded_neg (nib0_low _) (decoded_pos rfl (decoded_neg (nib0_low _)
      (decoded_three (nibField_nib0 _) (decoded_addr _) (nibField_nib0 _))))
  -- loads and stores of CCR
  | ldcWLoadInd | ldcWLoadPostInc => exact decoded_instr_neg (nib0_low _) (decoded_one (nibField_nib0 _))
  | stcWStoreInd | stcWStorePreDec => exact decoded_instr_pos (nibTop_nib1 _) (decoded_one (nibField_nib1 _))
  | ldcWLoadDisp16 =>
    exact decoded_instr_neg (nib0_low _) (decoded_two (Quad.toWord_ofWord _) (nibField_nib0 _))
  | stcWStoreDisp16 =>
    exact decoded_instr_pos (nibTop_nib1 _) (decoded_two (Quad.toWord_ofWord _) (nibField_nib1 _))
  | ldcWLoadDisp24 | stcWStoreDisp24 =>
    exact decoded_neg (nib0_low _) (decoded_two (decoded_addr _) (nibField_nib0 _))
  -- bit instructions, bit number 0nnn or 1nnn, on a register, @ERd and @aa:8
  | bsetImmReg | bclrImmReg | bnotImmReg | btstImmReg =>
    exact decoded_neg (nib0_low _) (decoded_two (nibField_nib0 _) (Reg8.ofNib_nib _))
  | bandImmReg | borImmReg | bxorImmReg | bldImmReg | bstImmReg =>
    exact decoded_instr_neg (nib0_low _) (decoded_two (nibField_nib0 _) (Reg8.ofNib_nib _))
  | biandImmReg | biorImmReg | bixorImmReg | bildImmReg | bistImmReg =>
    exact decoded_instr_pos (nibTop_nib1 _) (decoded_two (nibField_nib1 _) (Reg8.ofNib_nib _))
  | bsetImmInd | bclrImmInd | bnotImmInd | btstImmInd =>
    exact decoded_neg (nib0_low _) (decoded_pos rfl
      (decoded_neg (nib0_low _) (decoded_two (nibField_nib0 _) (nibField_nib0 _))))
  | bandImmInd | borImmInd | bxorImmInd | bldImmInd | bstImmInd =>
    exact decoded_neg (nib0_low _) (decoded_instr_neg (nib0_low _) (decoded_two (nibField_nib0 _) (nibField_nib0 _)))
  | biandImmInd | biorImmInd | bixorImmInd | bildImmInd | bistImmInd =>
    exact decoded_neg (nib0_low _) (decoded_instr_pos (nibTop_nib1 _) (decoded_two (nibField_nib1 _) (nibField_nib0 _)))
  | bsetRegInd | bclrRegInd | bnotRegInd | btstRegInd =>
    exact decoded_neg (nib0_low _) (decoded_two (Reg8.ofNib_nib _) (nibField_nib0 _))
  | bsetImmAbs8 | bclrImmAbs8 | bnotImmAbs8 | btstImmAbs8 =>
    exact decoded_neg (nib0_low _) (decoded_two (nibField_nib0 _) (byte_of_nibbles _))
  | bandImmAbs8 | borImmAbs8 | bxorImmAbs8 | bldImmAbs8 | bstImmAbs8 =>
    exact decoded_instr_neg (nib0_low _) (decoded_two (nibField_nib0 _) (byte_of_nibbles _))
  | biandImmAbs8 | biorImmAbs8 | bixorImmAbs8 | bildImmAbs8 | bistImmAbs8 =>
    exact decoded_instr_pos (nibTop_nib1 _) (decoded_two (nibField_nib1 _) (byte_of_nibbles _))
  | bsetRegAbs8 | bclrRegAbs8 | bnotRegAbs8 | btstRegAbs8 => exact decoded_two (Reg8.ofNib_nib _) (byte_of_nibbles _)
  | movWReg | addWReg | cmpWReg | subWReg | andWReg | orWReg | xorWReg =>
    exact decoded_two (Reg16.ofNib_nib _) (Reg16.ofNib_nib _)
end Sys2Proof
end

section
/-! The obligations about encodings and fetching, and two about every step. -/

namespace Sys2Proof
set_option Elab.async false

theorem map_ofWord_map_toWord (qs : List Quad) : (qs.map Quad.toWord).map Quad.ofWord = qs := by
  rw [List.map_map, funext (f := Quad.ofWord ∘ Quad.toWord) (g := id) Quad.ofWord_toWord, List.map_id]

theorem map_toWord_map_ofWord (ws : List Word) : (ws.map Quad.ofWord).map Quad.toWord = ws := by
  rw [List.map_map, funext (f := Quad.toWord ∘ Quad.ofWord) (g := id) Quad.toWord_ofWord, List.map_id]

theorem decode_encode (i : Instr) (rest : List Word) (hw : i.wellFormed = true) : decode (encode i ++ rest) = .instr i := by
  unfold decode encode
  rw [List.map_append, map_ofWord_map_toWord]
  exact decodeQuads_encodeQuads _ i hw

theorem encode_prefix_of_decode {ws : List Word} {i : Instr} (h : decode ws = .instr i) :
    i.wellFormed = true ∧ encode i <+: ws := by
  obtain ⟨hw, hp⟩ := decodeQuads_reads.sound _ _ h
  refine ⟨hw, ?_⟩
  have hmap := hp.map Quad.toWord
  rwa [List.nil_append, map_toWord_map_ofWord] at hmap

/-- What the decoder answers, if not that a word is missing, stays the answer when words follow (R113). -/
theorem decode_append {ws : List Word} (rest : List Word) (h : decode ws ≠ .incomplete) :
    decode (ws ++ rest) = decode ws := by
  unfold decode
  rw [List.map_append]
  exact decodeQuads_reads.stable _ _ h

theorem extent (i : Instr) : Laws.Extent.Statement i := by
  cases i <;> exact Laws.extent_of_ble rfl rfl

/-- A proper beginning of an encoding is not yet a code: what the decoder read from it, it would read from the whole. -/
theorem decode_take_encode {i : Instr} (hw : i.wellFormed = true) {k : Nat} (hk : k < (encode i).length) :
    decode ((encode i).take k) = .incomplete := by
  by_contra hne
  have hwhole := decode_encode i [] hw
  rw [List.append_nil, ← List.take_append_drop k (encode i), decode_append _ hne] at hwhole
  have hlen := (encode_prefix_of_decode hwhole).2.length_le
  rw [List.length_take] at hlen
  omega

/-! ### The obligations -/

/-- Settles O2: field by field, `decodeQuads_encodeQuads`. -/
theorem decodeOfEncodeIsTheInstruction : Obligations.DecodeOfEncodeIsTheInstruction := by
  unfold Obligations.DecodeOfEncodeIsTheInstruction
  exact decode_encode

/-- Settles O3: `decodeQuads_reads`, one rule per branch of the decoder. -/
theorem decodedWordsAreTheEncoding : Obligations.DecodedWordsAreTheEncoding := by
  unfold Obligations.DecodedWordsAreTheEncoding
  exact fun _ _ h => encode_prefix_of_decode h

/-- Settles O4: the lengths are computed; that a proper beginning is incomplete follows from O2, O3 and `decode_append`. -/
theorem properPrefixesAreIncomplete : Obligations.ProperPrefixesAreIncomplete := by
  unfold Obligations.ProperPrefixesAreIncomplete
  intro i hw
  obtain ⟨hpos, hfive, hlen⟩ := extent i
  exact ⟨hlen, hpos, hfive, fun _ hk => decode_take_encode hw hk⟩

/-- Settles O1. -/
theorem sampleWordsDecode : Obligations.SampleWordsDecode := by
  unfold Obligations.SampleWordsDecode
  exact ⟨rfl, rfl, rfl, rfl, rfl, rfl, rfl, rfl⟩
end Sys2Proof

namespace Sys2Proof.Machine
set_option Elab.async false

theorem State.staleBytes_of_nil {s : State} (h : s.stale = []) (a : Addr) : s.staleBytes a = [] := by
  unfold State.staleBytes
  rw [h]
  rfl

/-- Where nothing stale is prefetched a byte of code is the byte there. -/
theorem State.fetchByte_readable {s : State} (h : s.stale = []) {a : Addr} (hr : Readable s a) :
    s.fetchByte a = (s.peek a, s) := by
  have hread : s.readPhys a = (s.peek a, s) := Prod.ext (State.readPhys_value hr) (State.readPhys_state hr)
  unfold State.fetchByte
  rw [hread]
  dsimp only
  rw [State.staleBytes_of_nil h]

theorem State.fetchWord_readable {s : State} (h : s.stale = []) {a : Addr} (hr : ReadableWord s a) :
    s.fetchWord a = (s.wordAt a, s) := by
  obtain ⟨hhi, hlo⟩ := hr
  unfold State.fetchWord
  dsimp only
  rw [show evenAddr (s.am a) = s.wordBase a from rfl, State.fetchByte_readable h hhi, s.am_wordBase_add_one]
  dsimp only
  rw [State.fetchByte_readable h hlo]
  rfl

/-- One round of fetching and decoding. -/
theorem State.fetchFrom_succ {s : State} (h : s.stale = []) {a : Addr} {w : Word} {ws : List Word}
    (hc : CodeAt s a (w :: ws)) (pre : List Word) (fuel : Nat) :
    s.fetchFrom a pre (fuel + 1) =
      match decode (pre ++ [w]) with
      | .instr i => .instr i s
      | .incomplete => s.fetchFrom (s.am (a + 2)) (pre ++ [w]) fuel
      | .undefinedCode => .undefinedCode := by
  obtain ⟨hr, rfl, -⟩ := hc
  rw [State.fetchFrom, State.fetchWord_readable h hr] <;> rfl

/-- From words the decoder reads an instruction of, fetching reads that instruction and leaves the state as it was. -/
theorem State.fetchFrom_instr {s : State} (h : s.stale = []) {i : Instr} :
    ∀ (ws pre : List Word) (a : Addr) (fuel : Nat), CodeAt s a ws → decode pre = .incomplete →
      decode (pre ++ ws) = .instr i → ws.length ≤ fuel → s.fetchFrom a pre fuel = .instr i s
  | [], pre, _, _, _, hpre, hd, _ => by simp [hpre] at hd
  | w :: ws, pre, a, 0, _, _, _, hf => absurd hf (by simp)
  | w :: ws, pre, a, fuel + 1, hc, hpre, hd, hf => by
    rw [List.append_cons] at hd
    rw [State.fetchFrom_succ h hc]
    cases hw : decode (pre ++ [w]) with
    | incomplete => exact State.fetchFrom_instr h ws _ _ fuel hc.2.2 hw hd (Nat.le_of_succ_le_succ hf)
    | instr j =>
      rw [decode_append ws (by rw [hw]; nofun), hw] at hd
      cases hd
      rfl
    | undefinedCode =>
      rw [decode_append ws (by rw [hw]; nofun), hw] at hd
      cases hd

/-- From words of an undefined code fetching answers that the code is undefined. -/
theorem State.fetchFrom_undefined {s : State} (h : s.stale = []) :
    ∀ (ws pre : List Word) (a : Addr) (fuel : Nat), CodeAt s a ws → decode pre = .incomplete →
      decode (pre ++ ws) = .undefinedCode → s.fetchFrom a pre fuel = .undefinedCode
  | [], pre, _, _, _, hpre, hd => by simp [hpre] at hd
  | _ :: _, _, _, 0, _, _, _ => rfl
  | w :: ws, pre, a, fuel + 1, hc, hpre, hd => by
    rw [List.append_cons] at hd
    rw [State.fetchFrom_succ h hc]
    cases hw : decode (pre ++ [w]) with
    | incomplete => exact State.fetchFrom_undefined h ws _ _ fuel hc.2.2 hw hd
    | instr j =>
      rw [decode_append ws (by rw [hw]; nofun), hw] at hd
      cases hd
    | undefinedCode => rfl

theorem CodeAt.clearInhibit {s : State} : ∀ {ws : List Word} {a : Addr}, CodeAt s a ws →
    CodeAt { s with inhibitInt := false } a ws
  | [], _, _ => trivial
  | _ :: _, _, ⟨hr, hw, hc⟩ => ⟨hr, hw, hc.clearInhibit⟩

/-- An undisturbed step that takes no interrupt runs the instruction at PC. -/
theorem step_of_runInstr {s : State} (hq : Undisturbed s) (hp : s.proc = .programExecution) (hn : s.nmiDue = none)
    (hm : s.inhibitInt = true ∨ ∀ r ∈ s.pending, Masked s r) :
    step s = match ({ s with inhibitInt := false } : State).runInstr with
      | .next t => .next t.settle
      | .fault f => .fault f
      | .refused r => .refused r := by
  have hreact : s.react [] = ({ s with inhibitInt := false } : State).runInstr :=
    (State.react_of_programExecution hq.stbyLow hq.resLow [] hp hq.busReq).trans (State.runProgram_of_masked hn hm)
  unfold step State.cycle
  rw [State.sample_of_env_nil hq.env]
  dsimp only
  rw [hreact] <;> rfl

/-- Settles O6: fetching stops at the word that makes the code undefined. -/
theorem undefinedCodeIsRefused : Obligations.UndefinedCodeIsRefused := by
  unfold Obligations.UndefinedCodeIsRefused
  intro ws s hd hq hp hst hn hm hc
  have hf : ({ s with inhibitInt := false } : State).fetchInstr = .undefinedCode :=
    State.fetchFrom_undefined (s := { s with inhibitInt := false }) hst ws [] s.pc 5 hc.clearInhibit rfl hd
  rw [step_of_runInstr hq hp hn hm]
  unfold State.runInstr
  rw [hf]

/-- Settles O5: the words at PC are fetched as the instruction they encode (O2). -/
theorem stepRunsTheInstructionAtPc : Obligations.StepRunsTheInstructionAtPc := by
  unfold Obligations.StepRunsTheInstructionAtPc
  intro i s hw hq hp hst hn hm hc
  have hd : decode ([] ++ encode i) = .instr i := by simpa using decode_encode i [] hw
  have hf : ({ s with inhibitInt := false } : State).fetchInstr = .instr i { s with inhibitInt := false } :=
    State.fetchFrom_instr (s := { s with inhibitInt := false }) hst _ [] s.pc 5 hc.clearInhibit rfl hd (extent i).2.1
  rw [step_of_runInstr hq hp hn hm]
  unfold State.runInstr
  rw [hf]
  dsimp only
  cases exec i { s with inhibitInt := false } <;> rfl

/-- Settles O9. -/
theorem resetMeetsTheInvariant : Obligations.ResetMeetsTheInvariant := by
  unfold Obligations.ResetMeetsTheInvariant
  exact ⟨State.reset_mem_wf, rfl, fun _ => by decide, nofun⟩

/-- Settles O11: a part of what every step keeps. -/
theorem stepKeepsTheParameters : Obligations.StepKeepsTheParameters := by
  unfold Obligations.StepKeepsTheParameters
  intro s t h
  have hk := (step_stepKept h).kept
  exact ⟨hk.mode, hk.ui, hk.ec, hk.mm⟩

end Sys2Proof.Machine
end

section
/-! Comparisons, increments and decrements, and decimal adjustment (42_arithmetic.md): CMP, INC, DEC, DAA and DAS, and the
decimal addition and subtraction that DAA and DAS are for. -/

namespace Sys2Proof.Machine

set_option Elab.async false

/-! ### The effect of DAA and DAS -/

/-- A flag that keeps its value need not be listed. -/
theorem FlagsBecome.drop_last {s t : State} {l : List (Flag × Bool)} {g : Flag} (h : FlagsBecome s t (l ++ [(g, s.flag g)])) :
    FlagsBecome s t l := by
  intro f
  rw [h f, List.lookup_append]
  cases l.lookup f with
  | some b => rfl
  | none =>
    by_cases hf : f = g
    · simp [List.lookup, hf]
    · simp [List.lookup, beq_eq_false_iff_ne.2 hf]

/-- In a row of the table the sum, N and Z are fixed, C is as `keepC` says, and H and V may be anything. -/
theorem State.decimal_row_effect (s : State) (rd : Reg8) {t : List DecimalRow} {row : DecimalRow} (keepC : Bool)
    (hrow : decimalRow t (s.flag .c) (s.flag .h) (s.reg8 rd) = some row) :
    ∃ h v, RegisterEffect s (s.decimal rd t keepC) (fun u => OnlyByte s u rd (s.reg8 rd + row.added))
      [(.h, h), (.v, v), (.n, (s.reg8 rd + row.added).getLsbD 7), (.z, decide ((s.reg8 rd + row.added).toNat = 0)),
        (.c, if keepC then s.flag .c else row.cAfter)] := by
  refine ⟨s.drawByte.1.getLsbD 0, s.drawByte.1.getLsbD 1, ?_⟩
  unfold State.decimal
  dsimp only
  rw [hrow]
  refine ⟨s.draw_frame.trans ((State.setReg8_frame _ rd _).trans (State.setCcr_frame _ _)), by simp, ?_, fun f => ?_⟩
  · exact fun u hu => ((State.setReg8_only s.drawByte.2 rd _).of_regs hu).from_regs rfl
  · rw [← decide_eq_zero, ← BitVec.msb_eq_getLsbD_last (s.reg8 rd + row.added)]
    simp only [State.flag_eq, State.setCcr_ccr, ccrNZ, ccrGet_ccrSet]
    cases f <;> rfl

/-- Outside the table the register and the five flags may be anything (R299, D18). -/
theorem State.decimal_free_effect (s : State) (rd : Reg8) {t : List DecimalRow} (keepC : Bool)
    (hrow : decimalRow t (s.flag .c) (s.flag .h) (s.reg8 rd) = none) :
    ∃ r h n z v c, RegisterEffect s (s.decimal rd t keepC) (fun u => OnlyByte s u rd r)
      [(.h, h), (.n, n), (.z, z), (.v, v), (.c, c)] := by
  refine ⟨s.drawByte.2.drawByte.1, s.drawByte.1.getLsbD 0, s.drawByte.1.getLsbD 2, s.drawByte.1.getLsbD 3,
    s.drawByte.1.getLsbD 1, s.drawByte.1.getLsbD 4, ?_⟩
  unfold State.decimal
  dsimp only
  rw [hrow]
  refine ⟨s.draw_frame.trans ((State.draw_frame _).trans ((State.setReg8_frame _ rd _).trans (State.setCcr_frame _ _))),
    by simp, ?_, fun f => ?_⟩
  · exact fun u hu => ((State.setReg8_only s.drawByte.2.drawByte.2 rd _).of_regs hu).from_regs rfl
  · simp only [State.flag_eq, State.setCcr_ccr, ccrNZ, ccrGet_ccrSet]
    cases f <;> rfl

/-- In and outside the table nothing but the byte register and the five flags changes. -/
theorem State.decimal_effect (s : State) (rd : Reg8) (t : List DecimalRow) (keepC : Bool) :
    ∃ r h n z v c, RegisterEffect s (s.decimal rd t keepC) (fun u => OnlyByte s u rd r)
      [(.h, h), (.n, n), (.z, z), (.v, v), (.c, c)] := by
  cases hrow : decimalRow t (s.flag .c) (s.flag .h) (s.reg8 rd) with
  | none => exact s.decimal_free_effect rd keepC hrow
  | some row =>
    obtain ⟨h, v, heff⟩ := s.decimal_row_effect rd keepC hrow
    exact ⟨_, h, _, _, v, _, heff.frame, heff.mem, heff.regs, fun f => (heff.flags f).trans (by cases f <;> rfl)⟩

/-! ### The tables against decimal arithmetic -/

/-- The byte `x`, adjusted by the row, is the decimal number `n` in two digits. -/
def DecimalRow.Adjusts (row : DecimalRow) (x : Byte) (n : Nat) : Prop :=
  IsBcd (x + row.added) ∧ bcdValue (x + row.added) = n

/-- The table of DAA over all sums `h` of two upper digits and `l` of two lower digits and a carry (R248). -/
theorem daaTable_adjusts : ∀ (h : Fin 19) (l : Fin 20), ∃ row ∈ decimalRow daaTable (decide (256 ≤ 16 * h.val + l.val))
    (decide (16 ≤ l.val)) (BitVec.ofNat 8 (16 * h.val + l.val)),
    row.Adjusts (BitVec.ofNat 8 (16 * h.val + l.val)) ((10 * h.val + l.val) % 100) ∧
      row.cAfter = decide (100 ≤ 10 * h.val + l.val) := by
  unfold DecimalRow.Adjusts IsBcd
  decide +kernel

/-- The table of DAS over all differences `h - 9` of two upper digits and `l - 10` of two lower digits and a borrow
(R249). -/
theorem dasTable_adjusts : ∀ (h : Fin 19) (l : Fin 20), ∃ row ∈ decimalRow dasTable (decide (16 * h.val + l.val < 154))
    (decide (l.val < 10)) (BitVec.ofNat 8 (16 * h.val + l.val + 102)),
    row.Adjusts (BitVec.ofNat 8 (16 * h.val + l.val + 102)) ((10 * h.val + l.val) % 100) := by
  unfold DecimalRow.Adjusts IsBcd
  decide +kernel

/-- What `Add` gives of two decimal bytes, DAA adjusts to their decimal sum. -/
theorem daaTable_aluAdd {x y : Byte} (hx : IsBcd x) (hy : IsBcd y) (c : Bool) :
    ∃ row, decimalRow daaTable (aluAdd x y c).c (aluAdd x y c).h (aluAdd x y c).value = some row ∧
      row.Adjusts (aluAdd x y c).value ((bcdValue x + bcdValue y + c.toNat) % 100) ∧
      row.cAfter = decide (100 ≤ bcdValue x + bcdValue y + c.toNat) := by
  obtain ⟨hxh, hxl⟩ := hx
  obtain ⟨hyh, hyl⟩ := hy
  have hc : c.toNat ≤ 1 := c.toNat_le
  have hsum : x.toNat + y.toNat + c.toNat =
      16 * (x.toNat / 16 + y.toNat / 16) + (x.toNat % 16 + y.toNat % 16 + c.toNat) := by omega
  have hbcd : bcdValue x + bcdValue y + c.toNat =
      10 * (x.toNat / 16 + y.toNat / 16) + (x.toNat % 16 + y.toNat % 16 + c.toNat) := by
    unfold bcdValue
    omega
  have key := daaTable_adjusts ⟨x.toNat / 16 + y.toNat / 16, by omega⟩ ⟨x.toNat % 16 + y.toNat % 16 + c.toNat, by omega⟩
  simp only [← hsum, ← hbcd] at key
  exact key

/-- What `Sub` gives of two decimal bytes, DAS adjusts to their decimal difference. -/
theorem dasTable_aluSub {x y : Byte} (hx : IsBcd x) (hy : IsBcd y) (c : Bool) :
    ∃ row, decimalRow dasTable (aluSub x y c).c (aluSub x y c).h (aluSub x y c).value = some row ∧
      row.Adjusts (aluSub x y c).value ((bcdValue x + 100 - (bcdValue y + c.toNat)) % 100) ∧
      (aluSub x y c).c = decide (bcdValue x < bcdValue y + c.toNat) := by
  obtain ⟨hxh, hxl⟩ := hx
  obtain ⟨hyh, hyl⟩ := hy
  have hc : c.toNat ≤ 1 := c.toNat_le
  have hvalue : (aluSub x y c).value = BitVec.ofNat 8
      (16 * (x.toNat / 16 + 9 - y.toNat / 16) + (x.toNat % 16 + 10 - y.toNat % 16 - c.toNat) + 102) := by
    apply BitVec.eq_of_toNat_eq
    simp only [aluSub, BitVec.toNat_sub, BitVec.toNat_ofNat]
    omega
  have hborrow : (aluSub x y c).c =
      decide (16 * (x.toNat / 16 + 9 - y.toNat / 16) + (x.toNat % 16 + 10 - y.toNat % 16 - c.toNat) < 154) :=
    decide_eq_decide.2 (by omega)
  have hhalf : (aluSub x y c).h = decide (x.toNat % 16 + 10 - y.toNat % 16 - c.toNat < 10) :=
    decide_eq_decide.2 (by show x.toNat % 16 < y.toNat % 16 + c.toNat ↔ _; omega)
  have hbcd : (bcdValue x + 100 - (bcdValue y + c.toNat)) % 100 =
      (10 * (x.toNat / 16 + 9 - y.toNat / 16) + (x.toNat % 16 + 10 - y.toNat % 16 - c.toNat)) % 100 := by
    unfold bcdValue
    omega
  obtain ⟨row, hrow, hadj⟩ := dasTable_adjusts ⟨x.toNat / 16 + 9 - y.toNat / 16, by omega⟩
    ⟨x.toNat % 16 + 10 - y.toNat % 16 - c.toNat, by omega⟩
  rw [hbcd, hborrow, hhalf, hvalue]
  refine ⟨row, hrow, hadj, decide_eq_decide.2 ?_⟩
  unfold bcdValue
  omega

/-! ### Instructions that end in a comparison, and a decimal instruction after an addition or subtraction -/

section Forms

variable {i : Instr} {s t : State} {k : Addr}

theorem RegisterForm.compare {w : Nat} {x : AluResult w} {v : BitVec w} {fl : List (Flag × Bool)}
    (he : exec i s = .next ((s.compare x).advance k)) (hk : k = BitVec.ofNat 24 i.length) (hx : x.Gives true v fl) :
    RegisterForm i s (SameRegisters s) fl := by
  obtain ⟨-, rfl⟩ := hx
  exact .of_effect he hk (s.compare_effect x)

/-- A byte register and C, H after `Add` or `Sub` left `x` there. -/
theorem RegisterEffect.aluResult {rd : Reg8} {x : AluResult 8} {z : Bool} (k : Addr)
    (h : RegisterEffect s t (fun u => OnlyByte s u rd x.value) [(.h, x.h), (.n, x.n), (.z, z), (.v, x.v), (.c, x.c)]) :
    (t.advance k).reg8 rd = x.value ∧ (t.advance k).flag .h = x.h ∧ (t.advance k).flag .c = x.c :=
  ⟨(h.regs _ rfl).1, h.flags .h, h.flags .c⟩

/-- `Add` of two decimal bytes, then DAA. -/
theorem daa_after_aluAdd {rd : Reg8} {x y : Byte} {c z : Bool} (hx : IsBcd x) (hy : IsBcd y)
    (he : exec i s = .next (t.advance k))
    (h : RegisterEffect s t (fun u => OnlyByte s u rd (aluAdd x y c).value)
      [(.h, (aluAdd x y c).h), (.n, (aluAdd x y c).n), (.z, z), (.v, (aluAdd x y c).v), (.c, (aluAdd x y c).c)]) :
    Answers i s fun t => Answers (.daa rd) t fun u => DecimalSum u rd (bcdValue x + bcdValue y + c.toNat) := by
  obtain ⟨hreg, hh, hc⟩ := h.aluResult k
  obtain ⟨row, hrow, ⟨hbcd, hval⟩, hcarry⟩ := daaTable_aluAdd hx hy c
  rw [← hreg] at hbcd hval
  rw [← hreg, ← hh, ← hc] at hrow
  obtain ⟨fh, fv, heff⟩ := (t.advance k).decimal_row_effect rd false hrow
  have hsum := (heff.regs (((t.advance k).decimal rd daaTable false).advance 2) rfl).1
  refine ⟨_, he, _, rfl, ?_, ?_, (heff.flags .c).trans hcarry⟩
  · rwa [hsum]
  · rwa [hsum]

/-- `Sub` of two decimal bytes, then DAS. -/
theorem das_after_aluSub {rd : Reg8} {x y : Byte} {c z : Bool} (hx : IsBcd x) (hy : IsBcd y)
    (he : exec i s = .next (t.advance k))
    (h : RegisterEffect s t (fun u => OnlyByte s u rd (aluSub x y c).value)
      [(.h, (aluSub x y c).h), (.n, (aluSub x y c).n), (.z, z), (.v, (aluSub x y c).v), (.c, (aluSub x y c).c)]) :
    Answers i s fun t => Answers (.das rd) t fun u => DecimalDifference u rd (bcdValue x) (bcdValue y + c.toNat) := by
  obtain ⟨hreg, hh, hc⟩ := h.aluResult k
  obtain ⟨row, hrow, ⟨hbcd, hval⟩, hborrow⟩ := dasTable_aluSub hx hy c
  rw [← hreg] at hbcd hval
  rw [← hreg, ← hh, ← hc] at hrow
  obtain ⟨fh, fv, heff⟩ := (t.advance k).decimal_row_effect rd true hrow
  have hdiff := (heff.regs (((t.advance k).decimal rd dasTable true).advance 2) rfl).1
  refine ⟨_, he, _, rfl, ?_, ?_, (heff.flags .c).trans (hc.trans hborrow)⟩
  · rwa [hdiff]
  · rwa [hdiff]

end Forms

/-! ### The obligations -/

/-- Settles O27: CMP is `Sub` whose difference is kept nowhere. -/
theorem comparisonsChangeOnlyFlags : Obligations.ComparisonsChangeOnlyFlags := by
  unfold Obligations.ComparisonsChangeOnlyFlags
  intro s
  exact ⟨fun imm rd => .compare rfl rfl (aluSub_gives (by decide) _ _),
    fun rs rd => .compare rfl rfl (aluSub_gives (by decide) _ _),
    fun imm rd => .compare rfl rfl (aluSub_gives (by decide) _ _),
    fun rs rd => .compare rfl rfl (aluSub_gives (by decide) _ _),
    fun imm rd => .compare rfl rfl (aluSub_gives (by decide) _ _),
    fun rs rd => .compare rfl rfl (aluSub_gives (by decide) _ _)⟩

/-- Settles O29: each form is the increment or decrement of its width. -/
theorem incrementsAndDecrements : Obligations.IncrementsAndDecrements := by
  unfold Obligations.IncrementsAndDecrements
  intro s
  exact ⟨fun rd => .of_effect rfl rfl (s.inc8_effect rd 1), fun rd => .of_effect rfl rfl (s.dec8_effect rd 1),
    fun rd => .of_effect rfl rfl (s.inc16_effect rd 1), fun rd => .of_effect rfl rfl (s.dec16_effect rd 1),
    fun rd => .of_effect rfl rfl (s.inc16_effect rd 2), fun rd => .of_effect rfl rfl (s.dec16_effect rd 2),
    fun rd => .of_effect rfl rfl (s.inc32_effect rd 1), fun rd => .of_effect rfl rfl (s.dec32_effect rd 1),
    fun rd => .of_effect rfl rfl (s.inc32_effect rd 2), fun rd => .of_effect rfl rfl (s.dec32_effect rd 2)⟩

/-- Settles O35: the effect of a row of the table, and the effect whatever the operands are. -/
theorem decimalAdjustmentsFollowTheirTables : Obligations.DecimalAdjustmentsFollowTheirTables := by
  unfold Obligations.DecimalAdjustmentsFollowTheirTables
  intro s rd
  refine ⟨fun row hrow => ?_, fun row hrow => ?_, ?_, ?_⟩
  · obtain ⟨h, v, heff⟩ := s.decimal_row_effect rd false hrow
    exact ⟨h, v, .of_effect rfl rfl heff⟩
  · obtain ⟨h, v, hframe, hmem, hregs, hflags⟩ := s.decimal_row_effect rd true hrow
    exact ⟨h, v, .of_effect rfl rfl ⟨hframe, hmem, hregs, FlagsBecome.drop_last (g := .c) hflags⟩⟩
  · obtain ⟨r, h, n, z, v, c, heff⟩ := s.decimal_effect rd daaTable false
    exact ⟨r, h, n, z, v, c, .of_effect rfl rfl heff⟩
  · obtain ⟨r, h, n, z, v, c, heff⟩ := s.decimal_effect rd dasTable true
    exact ⟨r, h, n, z, v, c, .of_effect rfl rfl heff⟩

/-- Settles O36: the carry and half carry of `Add` select the row of DAA that adjusts the sum. -/
theorem decimalAdditionIsCorrect : Obligations.DecimalAdditionIsCorrect := by
  unfold Obligations.DecimalAdditionIsCorrect
  intro s rd hd
  exact ⟨fun x hx => daa_after_aluAdd (c := false) hd hx rfl (s.alu8_effect rd _),
    fun rs hs => daa_after_aluAdd (c := false) hd hs rfl (s.alu8_effect rd _),
    fun x hx => daa_after_aluAdd hd hx rfl (s.aluX8_effect rd _),
    fun rs hs => daa_after_aluAdd hd hs rfl (s.aluX8_effect rd _)⟩

/-- Settles O37: the borrow and half borrow of `Sub` select the row of DAS that adjusts the difference. -/
theorem decimalSubtractionIsCorrect : Obligations.DecimalSubtractionIsCorrect := by
  unfold Obligations.DecimalSubtractionIsCorrect
  intro s rd hd
  exact ⟨fun rs hs => das_after_aluSub (c := false) hd hs rfl (s.alu8_effect rd _),
    fun x hx => das_after_aluSub hd hx rfl (s.aluX8_effect rd _),
    fun rs hs => das_after_aluSub hd hs rfl (s.aluX8_effect rd _)⟩

end Sys2Proof.Machine
end

section
/-! Data transfer (41_data_transfer.md): MOV in every form, PUSH, POP, MOVFPE and MOVTPE; and the transfers of CCR of
46_system.md. First how an instruction that ends in a shared operation answers, then the obligations. -/

namespace Sys2Proof.Machine

set_option Elab.async false

section Forms

variable {i : Instr} {s : State} {ea k : Addr}

/-! ### Loads and stores at an effective address -/

theorem loadForm_byte {rd : Reg8} (he : exec i s = .next ((s.loadInto8 ea rd).advance k))
    (hk : k = BitVec.ofNat 24 i.length) :
    ∃ x, ByteRead s ea x ∧ LoadForm i s (fun t => OnlyByte s t rd x) (testFlags x) :=
  ⟨_, s.loadByte_read ea, .of_effect he hk (s.loadInto8_effect ea rd)⟩

theorem loadForm_word {rd : Reg16} (he : exec i s = .next ((s.loadInto16 ea rd).advance k))
    (hk : k = BitVec.ofNat 24 i.length) :
    ∃ x, WordRead s ea x ∧ LoadForm i s (fun t => OnlyWord s t rd x) (testFlags x) :=
  ⟨_, s.loadWord_read ea, .of_effect he hk (s.loadInto16_effect ea rd)⟩

theorem loadForm_long {rd : ERn} (he : exec i s = .next ((s.loadInto32 ea rd).advance k))
    (hk : k = BitVec.ofNat 24 i.length) :
    ∃ x, LongRead s ea x ∧ LoadForm i s (fun t => OnlyLong s t rd x) (testFlags x) :=
  ⟨_, s.loadLong_read ea, .of_effect he hk (s.loadInto32_effect ea rd)⟩

theorem StoreForm.byte {v : Byte} (he : exec i s = .next ((s.storeFrom8 ea v).advance k))
    (hk : k = BitVec.ofNat 24 i.length) :
    StoreForm i s (SameRegisters s) (testFlags v) (byteCells s ea v) [] :=
  .of_effect he hk (s.storeFrom8_effect ea v)

theorem StoreForm.word {v : Word} (he : exec i s = .next ((s.storeFrom16 ea v).advance k))
    (hk : k = BitVec.ofNat 24 i.length) : StoreForm i s (SameRegisters s) (testFlags v) (wordCells s ea v) [] :=
  .of_effect he hk (s.storeFrom16_effect ea v)

theorem StoreForm.long {v : Long} (he : exec i s = .next ((s.storeFrom32 ea v).advance k))
    (hk : k = BitVec.ofNat 24 i.length) : StoreForm i s (SameRegisters s) (testFlags v) (longCells s ea v) [] :=
  .of_effect he hk (s.storeFrom32_effect ea v)

/-! ### Transfers of CCR -/

theorem State.advance_outside (u : State) (k : Addr) : SameOutside u (u.advance k) := by constructor <;> rfl

/-- CCR is written from data the CPU holds. -/
theorem CcrForm.loadCcr {v : Byte} (he : exec i s = .next ((s.loadCcr v).advance k)) (hk : k = BitVec.ofNat 24 i.length) :
    CcrForm i s (SameRegisters s) v := by
  subst hk
  exact ⟨_, he, fun _ => rfl, rfl, fun _ _ => rfl, rfl, rfl, rfl, rfl, rfl, by constructor <;> rfl⟩

/-- CCR is loaded from memory, and `u` differs from the state after that in the registers alone. -/
theorem CcrForm.of_ldcW {u : State} {regs : State → Prop} (hu : DataFrame (s.ldcW ea) u) (hc : u.ccr = (s.ldcW ea).ccr)
    (hm : u.mem = (s.ldcW ea).mem) (hr : regs (u.advance k)) (he : exec i s = .next (u.advance k))
    (hk : k = BitVec.ofNat 24 i.length) : CcrForm i s regs ((s.loadWord ea).1.extractLsb' 8 8) := by
  subst hk
  obtain ⟨hccr, hinhibit, -, hpc, hproc, hnmi, hstale, hout, hmem⟩ := s.ldcW_spec ea
  have hall : SameOutside s u := hout.trans hu.outside
  refine ⟨_, he, hr, hc.trans hccr, fun hq => .of_mem (hm.trans (hmem hq)), ?_, hu.control.inhibitInt.trans hinhibit,
    hu.control.proc.trans hproc, hu.control.nmiDue.trans hnmi, hu.control.stale.trans hstale,
    hall.trans (u.advance_outside _)⟩
  show State.am u (u.pc + _) = _
  rw [hu.pc, hpc]
  unfold State.am
  rw [hall.mode]

theorem ccrForm_ldcW (he : exec i s = .next ((s.ldcW ea).advance k)) (hk : k = BitVec.ofNat 24 i.length) :
    ∃ x, WordRead s ea x ∧ CcrForm i s (SameRegisters s) (x.extractLsb' 8 8) := by
  obtain ⟨-, -, hregs, -⟩ := s.ldcW_spec ea
  exact ⟨_, s.loadWord_read ea, .of_ldcW (.refl _) rfl rfl (.of_regs hregs) he hk⟩

end Forms

/-! ### The obligations -/

/-- Settles O15. -/
theorem movesOfImmediatesAndRegisters : Obligations.MovesOfImmediatesAndRegisters := by
  unfold Obligations.MovesOfImmediatesAndRegisters
  intro s
  exact ⟨fun imm rd => .of_effect rfl rfl (s.moveInto8_effect rd imm),
    fun rs rd => .of_effect rfl rfl (s.moveInto8_effect rd (s.reg8 rs)),
    fun imm rd => .of_effect rfl rfl (s.moveInto16_effect rd imm),
    fun rs rd => .of_effect rfl rfl (s.moveInto16_effect rd (s.reg16 rs)),
    fun imm rd => .of_effect rfl rfl (s.moveInto32_effect rd imm),
    fun rs rd => .of_effect rfl rfl (s.moveInto32_effect rd (s.er rs))⟩

/-- Settles O16: the forms differ in the effective address alone. -/
theorem byteLoads : Obligations.ByteLoads := by
  unfold Obligations.ByteLoads
  intro s
  exact ⟨fun _ _ => loadForm_byte rfl rfl, fun _ _ _ => loadForm_byte rfl rfl, fun _ _ _ => loadForm_byte rfl rfl,
    fun _ _ => loadForm_byte rfl rfl, fun _ _ => loadForm_byte rfl rfl, fun _ _ => loadForm_byte rfl rfl⟩

/-- Settles O17, as O16. -/
theorem wordLoads : Obligations.WordLoads := by
  unfold Obligations.WordLoads
  intro s
  exact ⟨fun _ _ => loadForm_word rfl rfl, fun _ _ _ => loadForm_word rfl rfl, fun _ _ _ => loadForm_word rfl rfl,
    fun _ _ => loadForm_word rfl rfl, fun _ _ => loadForm_word rfl rfl⟩

/-- Settles O18, as O16. -/
theorem longwordLoads : Obligations.LongwordLoads := by
  unfold Obligations.LongwordLoads
  intro s
  exact ⟨fun _ _ => loadForm_long rfl rfl, fun _ _ _ => loadForm_long rfl rfl, fun _ _ _ => loadForm_long rfl rfl,
    fun _ _ => loadForm_long rfl rfl, fun _ _ => loadForm_long rfl rfl⟩

/-- Settles O19: the forms differ in the effective address alone. -/
theorem byteStores : Obligations.ByteStores := by
  unfold Obligations.ByteStores
  intro s
  exact ⟨fun _ _ => .byte rfl rfl, fun _ _ _ => .byte rfl rfl, fun _ _ _ => .byte rfl rfl, fun _ _ => .byte rfl rfl,
    fun _ _ => .byte rfl rfl, fun _ _ => .byte rfl rfl⟩

/-- Settles O20, as O19. -/
theorem wordStores : Obligations.WordStores := by
  unfold Obligations.WordStores
  intro s
  exact ⟨fun _ _ => .word rfl rfl, fun _ _ _ => .word rfl rfl, fun _ _ _ => .word rfl rfl, fun _ _ => .word rfl rfl,
    fun _ _ => .word rfl rfl⟩

/-- Settles O21, as O19. -/
theorem longwordStores : Obligations.LongwordStores := by
  unfold Obligations.LongwordStores
  intro s
  exact ⟨fun _ _ => .long rfl rfl, fun _ _ _ => .long rfl rfl, fun _ _ _ => .long rfl rfl, fun _ _ => .long rfl rfl,
    fun _ _ => .long rfl rfl⟩

/-- Settles O22: POP is the post-increment load at SP. -/
theorem postIncrementLoadsAndPops : Obligations.PostIncrementLoadsAndPops := by
  unfold Obligations.PostIncrementLoadsAndPops
  intro s
  exact ⟨fun ers rd => ⟨_, s.loadByte_read _, .of_effect rfl rfl (s.loadPostInc8_effect ers rd)⟩,
    fun ers rd => ⟨_, s.loadWord_read _, .of_effect rfl rfl (s.loadPostInc16_effect ers rd)⟩,
    fun ers rd => ⟨_, s.loadLong_read _, .of_effect rfl rfl (s.loadPostInc32_effect ers rd)⟩,
    fun rn => ⟨_, s.loadWord_read _, .of_effect rfl rfl (s.loadPostInc16_effect 7#3 rn)⟩,
    fun ern => ⟨_, s.loadLong_read _, .of_effect rfl rfl (s.loadPostInc32_effect 7#3 ern)⟩⟩

/-- Settles O23: PUSH is the pre-decrement store at SP. -/
theorem preDecrementStoresAndPushes : Obligations.PreDecrementStoresAndPushes := by
  unfold Obligations.PreDecrementStoresAndPushes
  intro s
  exact ⟨fun rs erd => .of_effect rfl rfl (s.storePreDec8_effect rs erd),
    fun rs erd => .of_effect rfl rfl (s.storePreDec16_effect rs erd),
    fun rs erd => .of_effect rfl rfl (s.storePreDec32_effect rs erd),
    fun rn => .of_effect rfl rfl (s.storePreDec16_effect rn 7#3),
    fun ern => .of_effect rfl rfl (s.storePreDec32_effect ern 7#3)⟩

/-- Settles O24: with an E clock both are transfers at the 16-bit address, without one both are refused. -/
theorem eClockTransfers : Obligations.EClockTransfers := by
  unfold Obligations.EClockTransfers
  intro s abs r
  refine ⟨fun h => ?_, fun h => ?_⟩
  · exact ⟨loadForm_byte (if_pos h) rfl, .byte (if_pos h) rfl⟩
  · have hno : ¬s.hasEClock = true := by simp [h]
    exact ⟨if_neg hno, if_neg hno⟩

/-- Settles O51: the value written has the bits of the operation on CCR and the immediate. -/
theorem ccrIsWrittenWholeAndInhibits : Obligations.CcrIsWrittenWholeAndInhibits := by
  unfold Obligations.CcrIsWrittenWholeAndInhibits
  intro s
  exact ⟨fun imm => .loadCcr rfl rfl, fun rs => .loadCcr rfl rfl,
    fun imm => ⟨s.ccr &&& imm, fun _ => BitVec.getLsbD_and, .loadCcr rfl rfl⟩,
    fun imm => ⟨s.ccr ||| imm, fun _ => BitVec.getLsbD_or, .loadCcr rfl rfl⟩,
    fun imm => ⟨s.ccr ^^^ imm, fun _ => BitVec.getLsbD_xor, .loadCcr rfl rfl⟩⟩

/-- Settles O52: @ERs+ moves the pointer after CCR is loaded. -/
theorem ccrLoadsFromMemory : Obligations.CcrLoadsFromMemory := by
  unfold Obligations.CcrLoadsFromMemory
  intro s
  refine ⟨fun _ => ccrForm_ldcW rfl rfl, fun _ _ => ccrForm_ldcW rfl rfl, fun _ _ => ccrForm_ldcW rfl rfl,
    fun _ => ccrForm_ldcW rfl rfl, fun _ => ccrForm_ldcW rfl rfl,
    fun ers => ⟨_, s.loadWord_read _, .of_ldcW (State.setEr_frame _ ers _) rfl rfl ?_ rfl rfl⟩⟩
  obtain ⟨-, -, hregs, -⟩ := s.ldcW_spec (s.eaInd ers)
  exact ((State.setEr_only _ ers _).of_regs rfl).from_regs hregs.symm

/-- Settles O53: @-ERd moves the pointer before CCR is stored. -/
theorem ccrStores : Obligations.CcrStores := by
  unfold Obligations.CcrStores
  intro s
  refine ⟨fun rd => .of_effect rfl rfl (.byteOnly s rd s.ccr), fun erd => .of_effect rfl rfl (s.stcW_effect _),
    fun _ _ => .of_effect rfl rfl (s.stcW_effect _), fun _ _ => .of_effect rfl rfl (s.stcW_effect _),
    fun _ => .of_effect rfl rfl (s.stcW_effect _), fun _ => .of_effect rfl rfl (s.stcW_effect _), fun erd => ?_⟩
  have hea : (s.setEr erd (s.er erd - 2)).eaInd erd = low24 (s.er erd - 2) := by
    unfold State.eaInd
    rw [State.er_setEr_same]
  dsimp only
  rw [← hea]
  exact .of_effect rfl rfl ((s.setEr erd (s.er erd - 2)).stcW_effect _).afterSetEr

end Sys2Proof.Machine
end

section
/-! Bit manipulation (44_bit.md): BSET, BCLR, BNOT, BST, BIST, BTST and the eight carry instructions. First how an
instruction that ends in a shared operation on one bit answers, then the obligations. -/

namespace Sys2Proof.Machine

set_option Elab.async false

section Forms

variable {i : Instr} {s : State} {k ea : Addr} {rd : Reg8} {n : BitVec 3} {m : Nat}

/-! ### Writing a bit -/

theorem replacesRegisterBit_of_modifyReg {b : Bool → Bool}
    (he : exec i s = .next ((s.modifyReg rd fun x => byteWithBit x n (b (x.getLsbD n.toNat))).advance k))
    (hk : k = BitVec.ofNat 24 i.length) (hn : n.toNat = m) : ReplacesRegisterBit i s rd m b := by
  subst hn
  exact ⟨_, byteWithBit_spec _ _ _, .of_effect he hk (s.modifyReg_effect rd _)⟩

theorem replacesMemoryBit_of_modifyMem {b : Bool → Bool}
    (he : exec i s = .next ((s.modifyMem ea fun x => byteWithBit x n (b (x.getLsbD n.toNat))).advance k))
    (hk : k = BitVec.ofNat 24 i.length) (hn : n.toNat = m) : ReplacesMemoryBit i s ea m b := by
  subst hk hn
  have hb := s.modifyMem_frame ea fun x => byteWithBit x n (b (x.getLsbD n.toNat))
  refine ⟨_, he, .of_regs hb.regs, .same hb.ccr,
    ⟨?_, hb.control.trans ⟨rfl, rfl, rfl, rfl⟩, hb.outside.trans (by constructor <;> rfl)⟩,
    fun hq a => ?_⟩
  · rw [State.advance_pc, State.nextPc, hb.pc, hb.am]
  · have hpeek := hq.peek_modifyMem ea (fun x => byteWithBit x n (b (x.getLsbD n.toNat))) a
    by_cases h : a = s.am ea ∧ s.accessKind a = .memory
    · rw [if_pos h] at hpeek ⊢
      exact hpeek ▸ byteWithBit_spec _ _ _
    · rw [if_neg h] at hpeek ⊢
      exact hpeek

/-! ### A flag from a bit -/

theorem flagFromRegisterBit_of_testBit (he : exec i s = .next ((s.testBit (s.reg8 rd) n).advance k))
    (hk : k = BitVec.ofNat 24 i.length) (hn : n.toNat = m) : FlagFromRegisterBit i s rd m .z fun b => !b := by
  subst hn
  exact .of_effect he hk (s.testBit_effect _ n)

theorem flagFromMemoryBit_of_testBitMem (he : exec i s = .next ((s.testBitMem ea n).advance k))
    (hk : k = BitVec.ofNat 24 i.length) (hn : n.toNat = m) : FlagFromMemoryBit i s ea m .z fun b => !b := by
  subst hn
  exact ⟨_, s.loadByte_read ea, .of_effect he hk (s.testBitMem_effect ea n)⟩

/-- `f` of C and the bit, written as `g` of the bit alone. -/
theorem flagFromRegisterBit_of_carryBit {f : Bool → Bool → Bool} {g : Bool → Bool}
    (he : exec i s = .next ((s.carryBit (s.reg8 rd) n f).advance k)) (hk : k = BitVec.ofNat 24 i.length)
    (hg : ∀ b, f (s.flag .c) b = g b) : FlagFromRegisterBit i s rd n.toNat .c g := by
  unfold FlagFromRegisterBit
  rw [← hg]
  exact .of_effect he hk (s.carryBit_effect _ n f)

theorem flagFromMemoryBit_of_carryBitMem {f : Bool → Bool → Bool} {g : Bool → Bool}
    (he : exec i s = .next ((s.carryBitMem ea n f).advance k)) (hk : k = BitVec.ofNat 24 i.length)
    (hg : ∀ b, f (s.flag .c) b = g b) : FlagFromMemoryBit i s ea n.toNat .c g := by
  refine ⟨_, s.loadByte_read ea, ?_⟩
  rw [← hg]
  exact .of_effect he hk (s.carryBitMem_effect ea n f)

end Forms

/-- Exclusive or as R364 writes it. -/
theorem bne_eq_or_and (c b : Bool) : (c != b) = (c && !b || !c && b) := by
  cases c <;> cases b <;> rfl

theorem bne_not_eq_or_and (c b : Bool) : (c != !b) = (c && b || !c && !b) := by
  cases c <;> cases b <;> rfl

/-! ### The obligations -/

/-- Settles O40: every form writes one bit of its operand, numbered by the immediate or by a register modulo 8. -/
theorem bitWritesChangeOneBit : Obligations.BitWritesChangeOneBit := by
  unfold Obligations.BitWritesChangeOneBit
  intro s
  exact ⟨fun _ _ => replacesRegisterBit_of_modifyReg rfl rfl rfl, fun _ _ => replacesMemoryBit_of_modifyMem rfl rfl rfl,
    fun _ _ => replacesMemoryBit_of_modifyMem rfl rfl rfl,
    fun _ _ => replacesRegisterBit_of_modifyReg rfl rfl (bitNumber_toNat _),
    fun _ _ => replacesMemoryBit_of_modifyMem rfl rfl (bitNumber_toNat _),
    fun _ _ => replacesMemoryBit_of_modifyMem rfl rfl (bitNumber_toNat _),
    fun _ _ => replacesRegisterBit_of_modifyReg rfl rfl rfl, fun _ _ => replacesMemoryBit_of_modifyMem rfl rfl rfl,
    fun _ _ => replacesMemoryBit_of_modifyMem rfl rfl rfl,
    fun _ _ => replacesRegisterBit_of_modifyReg rfl rfl (bitNumber_toNat _),
    fun _ _ => replacesMemoryBit_of_modifyMem rfl rfl (bitNumber_toNat _),
    fun _ _ => replacesMemoryBit_of_modifyMem rfl rfl (bitNumber_toNat _),
    fun _ _ => replacesRegisterBit_of_modifyReg rfl rfl rfl, fun _ _ => replacesMemoryBit_of_modifyMem rfl rfl rfl,
    fun _ _ => replacesMemoryBit_of_modifyMem rfl rfl rfl,
    fun _ _ => replacesRegisterBit_of_modifyReg rfl rfl (bitNumber_toNat _),
    fun _ _ => replacesMemoryBit_of_modifyMem rfl rfl (bitNumber_toNat _),
    fun _ _ => replacesMemoryBit_of_modifyMem rfl rfl (bitNumber_toNat _),
    fun _ _ => replacesRegisterBit_of_modifyReg rfl rfl rfl, fun _ _ => replacesMemoryBit_of_modifyMem rfl rfl rfl,
    fun _ _ => replacesMemoryBit_of_modifyMem rfl rfl rfl, fun _ _ => replacesRegisterBit_of_modifyReg rfl rfl rfl,
    fun _ _ => replacesMemoryBit_of_modifyMem rfl rfl rfl, fun _ _ => replacesMemoryBit_of_modifyMem rfl rfl rfl⟩

/-- Settles O41: every form reads one bit of its operand into Z or, with the old C, into C. -/
theorem bitTestsAndCarryOperations : Obligations.BitTestsAndCarryOperations := by
  unfold Obligations.BitTestsAndCarryOperations
  intro s
  exact ⟨fun _ _ => flagFromRegisterBit_of_testBit rfl rfl rfl, fun _ _ => flagFromMemoryBit_of_testBitMem rfl rfl rfl,
    fun _ _ => flagFromMemoryBit_of_testBitMem rfl rfl rfl,
    fun _ _ => flagFromRegisterBit_of_testBit rfl rfl (bitNumber_toNat _),
    fun _ _ => flagFromMemoryBit_of_testBitMem rfl rfl (bitNumber_toNat _),
    fun _ _ => flagFromMemoryBit_of_testBitMem rfl rfl (bitNumber_toNat _),
    fun _ _ => flagFromRegisterBit_of_carryBit rfl rfl (fun _ => rfl),
    fun _ _ => flagFromMemoryBit_of_carryBitMem rfl rfl (fun _ => rfl),
    fun _ _ => flagFromMemoryBit_of_carryBitMem rfl rfl (fun _ => rfl),
    fun _ _ => flagFromRegisterBit_of_carryBit rfl rfl (fun _ => rfl),
    fun _ _ => flagFromMemoryBit_of_carryBitMem rfl rfl (fun _ => rfl),
    fun _ _ => flagFromMemoryBit_of_carryBitMem rfl rfl (fun _ => rfl),
    fun _ _ => flagFromRegisterBit_of_carryBit rfl rfl (fun _ => rfl),
    fun _ _ => flagFromMemoryBit_of_carryBitMem rfl rfl (fun _ => rfl),
    fun _ _ => flagFromMemoryBit_of_carryBitMem rfl rfl (fun _ => rfl),
    fun _ _ => flagFromRegisterBit_of_carryBit rfl rfl (fun _ => rfl),
    fun _ _ => flagFromMemoryBit_of_carryBitMem rfl rfl (fun _ => rfl),
    fun _ _ => flagFromMemoryBit_of_carryBitMem rfl rfl (fun _ => rfl),
    fun _ _ => flagFromRegisterBit_of_carryBit rfl rfl (bne_eq_or_and _),
    fun _ _ => flagFromMemoryBit_of_carryBitMem rfl rfl (bne_eq_or_and _),
    fun _ _ => flagFromMemoryBit_of_carryBitMem rfl rfl (bne_eq_or_and _),
    fun _ _ => flagFromRegisterBit_of_carryBit rfl rfl (bne_not_eq_or_and _),
    fun _ _ => flagFromMemoryBit_of_carryBitMem rfl rfl (bne_not_eq_or_and _),
    fun _ _ => flagFromMemoryBit_of_carryBitMem rfl rfl (bne_not_eq_or_and _),
    fun _ _ => flagFromRegisterBit_of_carryBit rfl rfl (fun _ => rfl),
    fun _ _ => flagFromMemoryBit_of_carryBitMem rfl rfl (fun _ => rfl),
    fun _ _ => flagFromMemoryBit_of_carryBitMem rfl rfl (fun _ => rfl),
    fun _ _ => flagFromRegisterBit_of_carryBit rfl rfl (fun _ => rfl),
    fun _ _ => flagFromMemoryBit_of_carryBitMem rfl rfl (fun _ => rfl),
    fun _ _ => flagFromMemoryBit_of_carryBitMem rfl rfl (fun _ => rfl)⟩

end Sys2Proof.Machine
end

section
/-! Block transfer (47_block.md): EEPMOV.B. No byte of it is cut by NMI, and its count R4L goes down as R4 does for EEPMOV.W
while it is not 0, so its bytes are those of EEPMOV.W. -/

namespace Sys2Proof.Machine

set_option Elab.async false

/-! ### Counting down in the lower half -/

theorem toNat_append_eq {a b : Nat} (x : BitVec a) (y : BitVec b) : (x ++ y).toNat = x.toNat * 2 ^ b + y.toNat := by
  rw [BitVec.toNat_append, ← Nat.shiftLeft_add_eq_or_of_lt y.isLt, Nat.shiftLeft_eq]

/-- Where the lower part is not 0, no borrow goes into the upper part. -/
theorem append_sub_one {a b : Nat} (x : BitVec a) {y : BitVec b} (h : y ≠ 0#b) : x ++ (y - 1#b) = (x ++ y) - 1#(a + b) := by
  have hy : 1 ≤ y.toNat := Nat.one_le_iff_ne_zero.2 fun e => h (BitVec.eq_of_toNat_eq (by simpa using e))
  have hb : b ≠ 0 := fun e => absurd y.isLt (by subst e; omega)
  have one (w : Nat) (hw : w ≠ 0) : (1#w).toNat = 1 := by simp [Nat.one_mod_two_pow (Nat.pos_of_ne_zero hw)]
  have hlow : (y - 1#b).toNat = y.toNat - 1 := by
    rw [BitVec.toNat_sub_of_le (by rw [BitVec.le_def, one b hb]; exact hy), one b hb]
  apply BitVec.eq_of_toNat_eq
  rw [BitVec.toNat_sub_of_le (by rw [BitVec.le_def, one _ (by omega), toNat_append_eq]; omega), toNat_append_eq, hlow,
    toNat_append_eq, one _ (by omega)]
  omega

theorem long_eq_byte_parts (x : Long) : x.extractLsb' 8 24 ++ x.extractLsb' 0 8 = x :=
  (BitVec.extractLsb'_append_extractLsb'_eq_extractLsb' rfl).trans (BitVec.extractLsb'_eq_self)

theorem long_eq_word_parts (x : Long) : x.extractLsb' 16 16 ++ x.extractLsb' 0 16 = x :=
  (BitVec.extractLsb'_append_extractLsb'_eq_extractLsb' rfl).trans (BitVec.extractLsb'_eq_self)

theorem word_low_ne_zero {x : Long} (h : x.extractLsb' 0 8 ≠ 0#8) : x.extractLsb' 0 16 ≠ 0#16 := fun e => h (by
  have hlow : (x.extractLsb' 0 16).extractLsb' 0 8 = x.extractLsb' 0 8 := BitVec.extractLsb'_extractLsb'_of_le (by decide)
  rw [← hlow, e]
  rfl)

/-- Counting RnL down while it is not 0 counts Rn down. -/
theorem State.setReg8_sub_one (s : State) {n : ERn} (h : s.reg8 (.l n) ≠ 0) :
    s.setReg8 (.l n) (s.reg8 (.l n) - 1) = s.setReg16 (.r n) (s.reg16 (.r n) - 1) := by
  have hbyte := append_sub_one ((s.er n).extractLsb' 8 24) (y := (s.er n).extractLsb' 0 8) h
  have hword := append_sub_one ((s.er n).extractLsb' 16 16) (word_low_ne_zero h)
  rw [long_eq_byte_parts] at hbyte
  rw [long_eq_word_parts] at hword
  exact congrArg (s.setEr n) (hbyte.trans hword.symm)

/-! ### The transfer -/

/-- One byte of EEPMOV.B: it is moved and R4L goes down by 1 (R470). -/
def State.eepmovStepB (s : State) : State := s.eepmovByte.setReg8 (.l 4#3) (s.eepmovByte.reg8 (.l 4#3) - 1)

theorem State.eepmovLoopB_eq_iterate (n : Nat) (s : State) : s.eepmovLoopB n = State.eepmovStepB^[n] s := by
  induction n generalizing s with
  | zero => rfl
  | succ n ih => exact ih _

theorem State.reg8_eepmovByte (s : State) (r : Reg8) (hr : r.whole = 4#3) : s.eepmovByte.reg8 r = s.reg8 r := by
  rw [State.reg8_eq_byteOf, State.reg8_eq_byteOf, State.er_eepmovByte, hr]
  rfl

theorem State.eepmovStepB_reg8_low (s : State) : s.eepmovStepB.reg8 (.l 4#3) = s.reg8 (.l 4#3) - 1 := by
  rw [State.eepmovStepB, (State.setReg8_only _ _ _).1, State.reg8_eepmovByte s _ rfl]

theorem State.eepmovStepB_reg8_high (s : State) : s.eepmovStepB.reg8 (.h 4#3) = s.reg8 (.h 4#3) := by
  rw [State.eepmovStepB, (State.setReg8_only _ _ _).2.1 _ (by decide), State.reg8_eepmovByte s _ rfl]

theorem State.iterate_eepmovStepB_reg8 (n : Nat) (s : State) :
    (State.eepmovStepB^[n] s).reg8 (.l 4#3) = s.reg8 (.l 4#3) - BitVec.ofNat 8 n ∧
      (State.eepmovStepB^[n] s).reg8 (.h 4#3) = s.reg8 (.h 4#3) := by
  induction n generalizing s with
  | zero => exact ⟨(BitVec.sub_zero _).symm, rfl⟩
  | succ n ih =>
    obtain ⟨hlow, hhigh⟩ := ih s.eepmovStepB
    rw [Function.iterate_succ_apply]
    refine ⟨?_, hhigh.trans s.eepmovStepB_reg8_high⟩
    rw [hlow, State.eepmovStepB_reg8_low, Nat.add_comm, BitVec.ofNat_add, BitVec.sub_sub]
    rfl

theorem State.eepmovStepB_eq (s : State) (h : s.reg8 (.l 4#3) ≠ 0) : s.eepmovStepB = s.eepmovStepW :=
  State.setReg8_sub_one _ (by rwa [State.reg8_eepmovByte s _ rfl])

/-- Until R4L is 0 the bytes of EEPMOV.B are those of EEPMOV.W. -/
theorem State.iterate_eepmovStepB_eq (n : Nat) (s : State) (h : n ≤ (s.reg8 (.l 4#3)).toNat) :
    State.eepmovStepB^[n] s = State.eepmovStepW^[n] s := by
  induction n generalizing s with
  | zero => rw [Function.iterate_zero, Function.iterate_zero]
  | succ n ih =>
    have hne : s.reg8 (.l 4#3) ≠ 0 := fun e => by simp [e] at h
    rw [Function.iterate_succ_apply, Function.iterate_succ_apply, ← s.eepmovStepB_eq hne]
    refine ih _ ?_
    rw [State.eepmovStepB_reg8_low, BitVec.toNat_sub_of_le (BitVec.le_def.2 (Nat.le_trans (Nat.le_add_left 1 n) h))]
    exact Nat.le_sub_of_add_le h

/-- EEPMOV.B up to the advance of PC: a transfer of R4L bytes. -/
theorem State.eepmovB_copied (s : State) : BlockCopied s s.eepmovB (s.reg8 (.l 4#3)).toNat := by
  have hread := s.eepmovReads_busRead
  have hreg : s.eepmovReads.reg8 (.l 4#3) = s.reg8 (.l 4#3) := State.reg8_eq_of_regs hread.frame.regs _
  have hcopied := hread.blockCopied.trans (s.eepmovReads.eepmovStepW_iterate_blockCopied (s.reg8 (.l 4#3)).toNat)
  rw [Nat.zero_add, ← State.iterate_eepmovStepB_eq _ _ (by rw [hreg]), ← State.eepmovLoopB_eq_iterate] at hcopied
  exact hcopied

theorem State.eepmovB_reg8 (s : State) :
    s.eepmovB.reg8 (.l 4#3) = 0 ∧ s.eepmovB.reg8 (.h 4#3) = s.reg8 (.h 4#3) := by
  have hregs := s.eepmovReads_busRead.frame.regs
  obtain ⟨hlow, hhigh⟩ := State.iterate_eepmovStepB_reg8 (s.reg8 (.l 4#3)).toNat s.eepmovReads
  rw [State.eepmovB, State.eepmovLoopB_eq_iterate]
  refine ⟨hlow.trans ?_, hhigh.trans (State.reg8_eq_of_regs hregs _)⟩
  rw [State.reg8_eq_of_regs hregs, BitVec.ofNat_toNat, BitVec.setWidth_eq]
  exact BitVec.sub_self _

/-! ### The obligation -/

/-- Settles O54: EEPMOV.B is a transfer of R4L bytes, and R4L is counted down to 0. -/
theorem blockTransferOfBytes : Obligations.BlockTransferOfBytes := by
  unfold Obligations.BlockTransferOfBytes
  intro s
  have ht := s.eepmovB_copied
  obtain ⟨hlow, hhigh⟩ := s.eepmovB_reg8
  refine ⟨_, rfl, ht.pointers, hlow, hhigh, .same ht.ccr, ⟨?_, ht.frame.control.trans ⟨rfl, rfl, rfl, rfl⟩,
    ht.frame.outside.trans (by constructor <;> rfl)⟩, fun hq hm a => congrFun (ht.mem hq hm) a⟩
  rw [State.advance_pc, State.nextPc, ht.frame.pc]
  unfold State.am
  rw [ht.frame.outside.mode]
  rfl

end Sys2Proof.Machine
end

section
/-! What an instruction leaves alone: the flags the table of R40 does not give it, and the inputs of the environment. One
lemma per shared operation says it by the operation's effect; `exec` is then a case split by operation, and the step takes one
input of the schedule (log 19). -/

namespace Sys2Proof.Machine

set_option Elab.async false

/-- Of CCR only the listed flags may change, and nothing outside the CPU changes. -/
structure WritesOnly (fs : List Flag) (s t : State) : Prop where
  outside : SameOutside s t
  flags : ∀ f, f ∉ fs → t.flag f = s.flag f

section Rules

variable {s t u : State} {regs : State → Prop} {fl : List (Flag × Bool)} {fs : List Flag}

theorem FlagsBecome.of_not_mem (h : FlagsBecome s t fl) {f : Flag} (hf : f ∉ fl.map Prod.fst) : t.flag f = s.flag f := by
  have hnone : fl.lookup f = none := List.lookup_eq_none_iff.2 fun p hp => by
    rw [bne_iff_ne]
    exact fun e => hf (List.mem_map.2 ⟨p, hp, e.symm⟩)
  rw [h f, hnone]
  rfl

theorem RegisterEffect.writesOnly (h : RegisterEffect s t regs fl) : WritesOnly (fl.map Prod.fst) s t :=
  ⟨h.frame.outside, fun _ => h.flags.of_not_mem⟩

theorem LoadEffect.writesOnly (h : LoadEffect s t regs fl) : WritesOnly (fl.map Prod.fst) s t :=
  ⟨h.frame.outside, fun _ => h.flags.of_not_mem⟩

theorem StoreEffect.writesOnly {cells : List (Addr × Byte)} {free : List Addr} (h : StoreEffect s t regs fl cells free) :
    WritesOnly (fl.map Prod.fst) s t :=
  ⟨h.frame.outside, fun _ => h.flags.of_not_mem⟩

/-- CCR is unchanged. -/
theorem WritesOnly.none (ho : SameOutside s t) (hc : t.ccr = s.ccr) : WritesOnly [] s t :=
  ⟨ho, fun f _ => by rw [State.flag_eq, State.flag_eq, hc]⟩

/-- Every flag may be written. -/
theorem WritesOnly.all (ho : SameOutside s t) : WritesOnly [.i, .ui, .h, .u, .n, .z, .v, .c] s t :=
  ⟨ho, fun f hf => absurd (by cases f <;> decide) hf⟩

theorem WritesOnly.trans (h : WritesOnly fs s t) (k : WritesOnly fs t u) : WritesOnly fs s u :=
  ⟨h.outside.trans k.outside, fun f hf => (k.flags f hf).trans (h.flags f hf)⟩

theorem BusFrame.writesOnly (h : BusFrame s t) : WritesOnly [] s t := .none h.outside h.ccr

/-- The end of an instruction that does not transfer control. -/
theorem IfNext.writesOnly {k : Addr} (h : WritesOnly fs s u) : IfNext (.next (u.advance k)) (WritesOnly fs s) :=
  .next ⟨h.outside.trans (u.advance_outside k), h.flags⟩

/-- The end of a jump, a call or a return. -/
theorem IfNext.writesOnlyAt {a : Addr} (h : WritesOnly fs s u) : IfNext (.next (u.setPc a)) (WritesOnly fs s) :=
  .next ⟨h.outside.trans (by constructor <;> rfl), h.flags⟩

end Rules

/-! ### The operations that have no effect lemma of their own -/

theorem State.decimal_writesOnly (s : State) (rd : Reg8) (t : List DecimalRow) (keepC : Bool) :
    WritesOnly [.h, .n, .z, .v, .c] s (s.decimal rd t keepC) := by
  obtain ⟨_, _, _, _, _, _, heff⟩ := s.decimal_effect rd t keepC
  exact heff.writesOnly

theorem State.divInto16_writesOnly (s : State) (rd : Reg16) (n z : Bool) (x : Option (Byte × Byte)) :
    WritesOnly [.n, .z] s ((s.setNZ n z).divInto16 rd x) := by
  obtain ⟨_, heff, -⟩ := s.divInto16_effect rd n z x
  exact heff.writesOnly

theorem State.divInto32_writesOnly (s : State) (rd : ERn) (n z : Bool) (x : Option (Word × Word)) :
    WritesOnly [.n, .z] s ((s.setNZ n z).divInto32 rd x) := by
  obtain ⟨_, heff, -⟩ := s.divInto32_effect rd n z x
  exact heff.writesOnly

theorem State.branchIf_writesOnly {w : Nat} (s : State) (cc : BitVec 4) (len : Addr) (disp : BitVec w) :
    WritesOnly [] s (s.branchIf cc len disp) := by
  unfold State.branchIf
  split <;> exact .none (by constructor <;> rfl) rfl

theorem State.call_writesOnly {s t : State} (h : BusRead s t) (len a : Addr) :
    IfNext (.next (t.call len a)) (WritesOnly [] s) :=
  .writesOnlyAt (State.subPush_effect_afterRead h _).writesOnly

theorem State.subPop_writesOnly (s : State) : WritesOnly [] s s.subPop.2 := by
  obtain ⟨-, hframe, -, hccr, -⟩ := s.subPop_spec
  exact .none hframe.outside hccr

theorem State.ldcW_outside (s : State) (ea : Addr) : SameOutside s (s.ldcW ea) := by
  obtain ⟨-, -, -, -, -, -, -, hout, -⟩ := s.ldcW_spec ea
  exact hout

theorem State.exceptionEntry_writesOnly (s : State) (ret vec : Addr) :
    WritesOnly [.i, .ui] s (s.exceptionEntry ret vec) := by
  obtain ⟨htaken, -, -, hout⟩ := s.exceptionEntry_spec ret vec
  have hmasks (b : Bool) : (if b then [(Flag.i, true), (.ui, true)] else [(.i, true)]).map Prod.fst ⊆ [.i, .ui] := by
    cases b <;> decide
  exact ⟨hout, fun f hf => htaken.flags.of_not_mem fun hmem => hf (hmasks _ hmem)⟩

theorem State.exceptionReturn_outside (s : State) : SameOutside s s.exceptionReturn := by
  obtain ⟨_, _, -, -, -, -, hframe, -, -⟩ := s.excPop_spec
  exact hframe.outside.trans (by constructor <;> rfl)

theorem State.eepmovB_writesOnly (s : State) : WritesOnly [] s s.eepmovB :=
  .none s.eepmovB_copied.frame.outside s.eepmovB_copied.ccr

theorem State.eepmovW_writesOnly (s : State) : WritesOnly [] s s.eepmovW := by
  obtain ⟨t, ht, hw⟩ := s.eepmovW_copied
  rw [hw]
  exact .none (ht.frame.outside.trans (by constructor <;> rfl)) ht.ccr

/-- Every instruction writes only the flags of the table (R40), by the operation it is made of. -/
theorem exec_writesOnly (i : Instr) (s : State) : IfNext (exec i s) (WritesOnly (flagsWritten i) s) := by
  cases i with
  -- Moves: N, Z, V.
  | movBImm | movBReg => exact .writesOnly (s.moveInto8_effect _ _).writesOnly
  | movWImm | movWReg => exact .writesOnly (s.moveInto16_effect _ _).writesOnly
  | movLImm | movLReg => exact .writesOnly (s.moveInto32_effect _ _).writesOnly
  | movBLoadInd | movBLoadDisp16 | movBLoadDisp24 | movBLoadAbs8 | movBLoadAbs16 | movBLoadAbs24 =>
    exact .writesOnly (s.loadInto8_effect _ _).writesOnly
  | movWLoadInd | movWLoadDisp16 | movWLoadDisp24 | movWLoadAbs16 | movWLoadAbs24 =>
    exact .writesOnly (s.loadInto16_effect _ _).writesOnly
  | movLLoadInd | movLLoadDisp16 | movLLoadDisp24 | movLLoadAbs16 | movLLoadAbs24 =>
    exact .writesOnly (s.loadInto32_effect _ _).writesOnly
  | movBStoreInd | movBStoreDisp16 | movBStoreDisp24 | movBStoreAbs8 | movBStoreAbs16 | movBStoreAbs24 =>
    exact .writesOnly (s.storeFrom8_effect _ _).writesOnly
  | movWStoreInd | movWStoreDisp16 | movWStoreDisp24 | movWStoreAbs16 | movWStoreAbs24 =>
    exact .writesOnly (s.storeFrom16_effect _ _).writesOnly
  | movLStoreInd | movLStoreDisp16 | movLStoreDisp24 | movLStoreAbs16 | movLStoreAbs24 =>
    exact .writesOnly (s.storeFrom32_effect _ _).writesOnly
  | movBLoadPostInc => exact .writesOnly (s.loadPostInc8_effect _ _).writesOnly
  | movWLoadPostInc | popW => exact .writesOnly (s.loadPostInc16_effect _ _).writesOnly
  | movLLoadPostInc | popL => exact .writesOnly (s.loadPostInc32_effect _ _).writesOnly
  | movBStorePreDec => exact .writesOnly (s.storePreDec8_effect _ _).writesOnly
  | movWStorePreDec | pushW => exact .writesOnly (s.storePreDec16_effect _ _).writesOnly
  | movLStorePreDec | pushL => exact .writesOnly (s.storePreDec32_effect _ _).writesOnly
  | movfpe => exact .ite (.writesOnly (s.loadInto8_effect _ _).writesOnly) .refused
  | movtpe => exact .ite (.writesOnly (s.storeFrom8_effect _ _).writesOnly) .refused
  -- Arithmetic: H, N, Z, V, C, or fewer.
  | addBImm | addBReg | subBReg | negB => exact .writesOnly (s.alu8_effect _ _).writesOnly
  | addWImm | addWReg | subWImm | subWReg | negW => exact .writesOnly (s.alu16_effect _ _).writesOnly
  | addLImm | addLReg | subLImm | subLReg | negL => exact .writesOnly (s.alu32_effect _ _).writesOnly
  | addxImm | addxReg | subxImm | subxReg => exact .writesOnly (s.aluX8_effect _ _).writesOnly
  | cmpBImm | cmpBReg | cmpWImm | cmpWReg | cmpLImm | cmpLReg => exact .writesOnly (s.compare_effect _).writesOnly
  | daa | das => exact .writesOnly (s.decimal_writesOnly _ _ _)
  | adds1 | adds2 | adds4 | subs1 | subs2 | subs4 | mulxuWReg => exact .writesOnly (RegisterEffect.longOnly s _ _).writesOnly
  | mulxuBReg => exact .writesOnly (RegisterEffect.wordOnly s _ _).writesOnly
  | mulxsBReg => exact .writesOnly (s.setReg16_setNZ_effect _ _).writesOnly
  | mulxsWReg => exact .writesOnly (s.setEr_setNZ_effect _ _).writesOnly
  | divxsBReg | divxuBReg => exact .writesOnly (s.divInto16_writesOnly _ _ _ _)
  | divxsWReg | divxuWReg => exact .writesOnly (s.divInto32_writesOnly _ _ _ _)
  | incB => exact .writesOnly (s.inc8_effect _ _).writesOnly
  | incW1 | incW2 => exact .writesOnly (s.inc16_effect _ _).writesOnly
  | incL1 | incL2 => exact .writesOnly (s.inc32_effect _ _).writesOnly
  | decB => exact .writesOnly (s.dec8_effect _ _).writesOnly
  | decW1 | decW2 => exact .writesOnly (s.dec16_effect _ _).writesOnly
  | decL1 | decL2 => exact .writesOnly (s.dec32_effect _ _).writesOnly
  | extsW => exact .writesOnly (RegisterEffect.word (.logic rfl)).writesOnly
  | extsL => exact .writesOnly (RegisterEffect.long (.logic rfl)).writesOnly
  | extuW => exact .writesOnly (RegisterEffect.word (.extu rfl)).writesOnly
  | extuL => exact .writesOnly (RegisterEffect.long (.extu rfl)).writesOnly
  -- Logic: N, Z, V; shifts: N, Z, V, C.
  | andBImm | andBReg | orBImm | orBReg | xorBImm | xorBReg | notB => exact .writesOnly (s.logic8_effect _ _).writesOnly
  | andWImm | andWReg | orWImm | orWReg | xorWImm | xorWReg | notW => exact .writesOnly (s.logic16_effect _ _).writesOnly
  | andLImm | andLReg | orLImm | orLReg | xorLImm | xorLReg | notL => exact .writesOnly (s.logic32_effect _ _).writesOnly
  | shalB | sharB | shllB | shlrB | rotlB | rotrB | rotxlB | rotxrB => exact .writesOnly (s.shift8_effect _ _).writesOnly
  | shalW | sharW | shllW | shlrW | rotlW | rotrW | rotxlW | rotxrW => exact .writesOnly (s.shift16_effect _ _).writesOnly
  | shalL | sharL | shllL | shlrL | rotlL | rotrL | rotxlL | rotxrL => exact .writesOnly (s.shift32_effect _ _).writesOnly
  -- Bits: none, Z or C.
  | bsetImmReg | bsetRegReg | bclrImmReg | bclrRegReg | bnotImmReg | bnotRegReg | bstImmReg | bistImmReg =>
    exact .writesOnly (s.modifyReg_effect _ _).writesOnly
  | bsetImmInd | bsetImmAbs8 | bsetRegInd | bsetRegAbs8 | bclrImmInd | bclrImmAbs8 | bclrRegInd | bclrRegAbs8
  | bnotImmInd | bnotImmAbs8 | bnotRegInd | bnotRegAbs8 | bstImmInd | bstImmAbs8 | bistImmInd | bistImmAbs8 =>
    exact .writesOnly (s.modifyMem_frame _ _).writesOnly
  | btstImmReg | btstRegReg => exact .writesOnly (s.testBit_effect _ _).writesOnly
  | btstImmInd | btstImmAbs8 | btstRegInd | btstRegAbs8 => exact .writesOnly (s.testBitMem_effect _ _).writesOnly
  | bandImmReg | biandImmReg | borImmReg | biorImmReg | bxorImmReg | bixorImmReg | bldImmReg | bildImmReg =>
    exact .writesOnly (s.carryBit_effect _ _ _).writesOnly
  | bandImmInd | bandImmAbs8 | biandImmInd | biandImmAbs8 | borImmInd | borImmAbs8 | biorImmInd | biorImmAbs8
  | bxorImmInd | bxorImmAbs8 | bixorImmInd | bixorImmAbs8 | bldImmInd | bldImmAbs8 | bildImmInd | bildImmAbs8 =>
    exact .writesOnly (s.carryBitMem_effect _ _ _).writesOnly
  -- Branches, jumps, calls and returns: none.
  | braD8 | brnD8 | bhiD8 | blsD8 | bccD8 | bcsD8 | bneD8 | beqD8 | bvcD8 | bvsD8 | bplD8 | bmiD8 | bgeD8
  | bltD8 | bgtD8 | bleD8 | braD16 | brnD16 | bhiD16 | blsD16 | bccD16 | bcsD16 | bneD16 | beqD16 | bvcD16
  | bvsD16 | bplD16 | bmiD16 | bgeD16 | bltD16 | bgtD16 | bleD16 =>
    exact .next (s.branchIf_writesOnly _ _ _)
  | jmpInd | jmpAbs24 => exact .writesOnlyAt (.none (.refl s) rfl)
  | jmpMemInd => exact .writesOnlyAt (s.branchAddress_frame _).writesOnly
  | bsrD8 | bsrD16 | jsrInd | jsrAbs24 => exact State.call_writesOnly (.refl s) _ _
  | jsrMemInd => exact State.call_writesOnly (s.branchAddress_busRead _) _ _
  | rts => exact .writesOnlyAt s.subPop_writesOnly
  -- System control: all of CCR, the masks, or none.
  | trapa => exact .next (s.exceptionEntry_writesOnly _ _)
  | rte => exact .next (.all s.exceptionReturn_outside)
  | ldcBImm | ldcBReg | andc | orc | xorc => exact .writesOnly (.all (by constructor <;> rfl))
  | ldcWLoadInd | ldcWLoadDisp16 | ldcWLoadDisp24 | ldcWLoadAbs16 | ldcWLoadAbs24 =>
    exact .writesOnly (.all (s.ldcW_outside _))
  | ldcWLoadPostInc => exact .writesOnly (.all ((s.ldcW_outside _).trans (State.setEr_frame _ _ _).outside))
  | stcBReg => exact .writesOnly (RegisterEffect.byteOnly s _ _).writesOnly
  | stcWStoreInd | stcWStoreDisp16 | stcWStoreDisp24 | stcWStoreAbs16 | stcWStoreAbs24 =>
    exact .writesOnly (s.stcW_effect _).writesOnly
  | stcWStorePreDec => exact .writesOnly (State.stcW_effect _ _).afterSetEr.writesOnly
  | sleep => exact .next (.none (by constructor <;> rfl) rfl)
  | nop => exact .writesOnly (.none (.refl s) rfl)
  | eepmovB => exact .writesOnly s.eepmovB_writesOnly
  | eepmovW => exact .writesOnly s.eepmovW_writesOnly

/-! ### The inputs a step leaves alone (log 19) -/

/-- The schedule and the levels of the pins are unchanged. -/
structure SameInputs (s t : State) : Prop where
  env : t.env = s.env
  resLow : t.resLow = s.resLow
  stbyLow : t.stbyLow = s.stbyLow
  busReq : t.busReq = s.busReq

theorem SameInputs.refl (s : State) : SameInputs s s := ⟨rfl, rfl, rfl, rfl⟩

theorem SameInputs.trans {s t u : State} (h : SameInputs s t) (k : SameInputs t u) : SameInputs s u :=
  ⟨k.env.trans h.env, k.resLow.trans h.resLow, k.stbyLow.trans h.stbyLow, k.busReq.trans h.busReq⟩

theorem SameOutside.inputs {s t : State} (h : SameOutside s t) : SameInputs s t :=
  ⟨h.env, h.resLow, h.stbyLow, h.busReq⟩

theorem State.fetchByte_outside (s : State) (a : Addr) : SameOutside s (s.fetchByte a).2 := by
  unfold State.fetchByte
  dsimp only
  split
  · exact (s.readPhys_frame a).outside
  · exact (s.readPhys_frame a).outside.trans (State.draw_frame _).outside

theorem State.fetchFrom_outside (fuel : Nat) (s : State) (a : Addr) (ws : List Word) {i : Instr} {t : State}
    (h : s.fetchFrom a ws fuel = .instr i t) : SameOutside s t := by
  induction fuel generalizing s a ws with
  | zero => cases h
  | succ fuel ih =>
    have hword : SameOutside s (s.fetchWord a).2 := (s.fetchByte_outside _).trans (State.fetchByte_outside _ _)
    unfold State.fetchFrom at h
    dsimp only at h
    split at h
    · cases h
      exact hword
    · exact hword.trans (ih _ _ _ h)
    · cases h

theorem State.runInstr_inputs (s : State) : IfNext s.runInstr (SameInputs s) := by
  unfold State.runInstr
  split
  · exact .refused
  · next i s1 hf =>
    have hx := exec_writesOnly i s1
    split
    · next t ht =>
      have hboth := (State.fetchFrom_outside _ _ _ _ hf).trans (hx t ht).outside
      exact .next (hboth.inputs.trans ⟨rfl, rfl, rfl, rfl⟩)
    · exact .fault
    · exact .refused

theorem State.interruptEntry_inputs (s : State) (r : Request) : IfNext (s.interruptEntry r) (SameInputs s) :=
  .ite (.next ((s.exceptionEntry_writesOnly _ _).outside.inputs.trans ⟨rfl, rfl, rfl, rfl⟩)) .refused

theorem State.runProgram_inputs (s : State) : IfNext s.runProgram (SameInputs s) := by
  unfold State.runProgram
  split
  · exact s.interruptEntry_inputs _
  · split
    · exact (State.runInstr_inputs _).mono fun _ h => ⟨h.env, h.resLow, h.stbyLow, h.busReq⟩
    · split
      · exact s.interruptEntry_inputs _
      · exact s.runInstr_inputs

theorem State.runPowerDown_inputs (s : State) : IfNext s.runPowerDown (SameInputs s) := by
  unfold State.runPowerDown
  split
  · exact s.interruptEntry_inputs _
  · exact .next (.refl s)

theorem State.releaseBus_inputs (s : State) (ws : List Host.Cell) : SameInputs s (s.releaseBus ws) :=
  (s.masterWrites_frame ws).outside.inputs.trans ⟨rfl, rfl, rfl, rfl⟩

theorem State.freeRegisters_frame (s : State) : DataFrame s s.freeRegisters :=
  (s.freeEr_frame 0#3).trans <| (State.freeEr_frame _ 1#3).trans <| (State.freeEr_frame _ 2#3).trans <|
    (State.freeEr_frame _ 3#3).trans <| (State.freeEr_frame _ 4#3).trans <| (State.freeEr_frame _ 5#3).trans <|
    (State.freeEr_frame _ 6#3).trans (State.freeEr_frame _ 7#3)

/-- Reset exception handling up to the read of its vector (R530). -/
def State.resetPrepared (s : State) : State :=
  (s.freeRegisters.drawByte.2.setCcr s.freeRegisters.drawByte.1).setFlag .i true

theorem State.resetEntry_eq (s : State) :
    s.resetEntry = { (s.resetPrepared.branchAddress 0#24).2.setPc (s.resetPrepared.branchAddress 0#24).1 with
      proc := .programExecution, inhibitInt := true, stale := [] } := rfl

theorem State.resetPrepared_frame (s : State) : DataFrame s s.resetPrepared :=
  s.freeRegisters_frame.trans <| s.freeRegisters.draw_frame.trans <|
    (State.setCcr_frame _ _).trans (State.setFlag_frame _ .i true)

theorem State.resetPrepared_busScript (s : State) : s.resetPrepared.busScript = s.busScript := rfl

theorem State.resetPrepared_flag_i (s : State) : s.resetPrepared.flag .i = true := by
  rw [State.resetPrepared, State.flag_eq, State.setFlag_ccr, ccrGet_ccrSet]
  rfl

theorem State.resetEntry_inputs (s : State) : SameInputs s s.resetEntry :=
  (s.resetPrepared_frame.outside.trans (State.branchAddress_frame _ _).outside).inputs.trans ⟨rfl, rfl, rfl, rfl⟩

/-- What follows the sampling of the inputs does not touch them, whatever the processing state. -/
theorem State.react_inputs (s : State) (ws : List Host.Cell) : IfNext (s.react ws) (SameInputs s) := by
  have hreset : SameInputs s s.enterReset := ⟨rfl, rfl, rfl, rfl⟩
  unfold State.react
  refine .ite (.next ⟨rfl, rfl, rfl, rfl⟩) (.ite (.next ?_) (.ite (.next hreset) ?_))
  · split
    · exact hreset
    · exact .refl s
  · cases s.proc with
    | hardwareStandby => exact .next (.refl s)
    | reset => exact .next s.resetEntry_inputs
    | sleep => exact s.runPowerDown_inputs
    | softwareStandby => exact s.runPowerDown_inputs
    | busReleased =>
      refine .next ?_
      split
      · exact s.releaseBus_inputs ws
      · exact ⟨rfl, rfl, rfl, rfl⟩
    | programExecution => exact .ite (.next (s.releaseBus_inputs ws)) s.runProgram_inputs

/-- The first entry of the schedule is taken; without one the levels stay. -/
theorem State.sample_inputs (s : State) :
    s.sample.1.env = s.env.tail ∧ s.sample.1.resLow = (s.env.head?.elim s.resLow fun k => k.resLow) ∧
      s.sample.1.stbyLow = (s.env.head?.elim s.stbyLow fun k => k.stbyLow) ∧
      s.sample.1.busReq = (s.env.head?.elim s.busReq fun k => k.busReq) := by
  unfold State.sample
  split
  · next h => exact ⟨by simp [h], by simp [h], by simp [h], by simp [h]⟩
  · next h => exact ⟨by simp [h], by simp [h], by simp [h], by simp [h]⟩

/-! ### The obligations -/

/-- Settles O14: a part of `exec_writesOnly`. -/
theorem instructionsWriteOnlyTheirFlags : Obligations.InstructionsWriteOnlyTheirFlags := by
  unfold Obligations.InstructionsWriteOnlyTheirFlags
  exact fun i s t f h hf => (exec_writesOnly i s t h).flags f hf

/-- Settles O8: the inputs are sampled once, and nothing after that touches them. -/
theorem eachStepTakesOneInput : Obligations.EachStepTakesOneInput := by
  unfold Obligations.EachStepTakesOneInput
  intro s t h
  obtain ⟨henv, hres, hstby, hbus⟩ := s.sample_inputs
  unfold step State.cycle at h
  split at h
  · next u hu =>
    cases h
    have hin := State.react_inputs _ _ u hu
    exact ⟨hin.env.trans henv, rfl, rfl, hin.resLow.trans hres, hin.stbyLow.trans hstby, hin.busReq.trans hbus⟩
  · cases h
  · cases h

end Sys2Proof.Machine
end

section
/-! Reset exception handling, and the pins that override everything (60_exceptions.md, 70_reset_and_hazards.md). -/

namespace Sys2Proof.Machine

set_option Elab.async false

/-- What a table entry holds is said only of reads without interference. -/
theorem EntryRead.of_quiet {s : State} {p v : Addr} (h : Quiet s → EntryRead s p v) : EntryRead s p v := by
  unfold EntryRead at h ⊢
  cases hm : s.mode <;> simp only [hm] at h ⊢
  · exact fun hq => h hq hq
  · exact fun hq => h hq hq

/-- Reset exception handling reads its vector from the memory of the reset state (R485, R530). -/
theorem State.resetPrepared_read (s : State) : EntryRead s 0 (s.resetPrepared.branchAddress 0#24).1 :=
  .of_quiet fun hq => (s.resetPrepared.branchAddress_read 0).of_mem (s.resetPrepared_busScript.trans hq) rfl
    s.resetPrepared_frame.outside.mode.symm s.resetPrepared_frame.outside.memMap.symm

theorem State.react_of_reset {s : State} (hstby : s.stbyLow = false) (hres : s.resLow = false) (hp : s.proc = .reset)
    (ws : List Host.Cell) : s.react ws = .next s.resetEntry := by
  simp [State.react, hstby, hres, hp]

/-! ### The obligations -/

/-- Settles O58: the step from the reset state is reset exception handling. -/
theorem resetLoadsTheVector : Obligations.ResetLoadsTheVector := by
  unfold Obligations.ResetLoadsTheVector
  intro s hq hp
  have hstep := step_of_react_next (State.sample_of_env_nil hq.env) (State.react_of_reset hq.stbyLow hq.resLow hp [])
  have hb := s.resetPrepared.branchAddress_frame 0#24
  rw [State.resetEntry_eq] at hstep
  refine ⟨_, _, hstep, s.resetPrepared_read, ?_, ?_, rfl, rfl, rfl, fun hquiet => .of_mem ?_⟩
  · have hmode := hb.mode.trans s.resetPrepared_frame.outside.mode
    show evenAddr (State.am _ _) = _
    unfold State.am
    rw [hmode]
  · show ccrGet (s.resetPrepared.branchAddress 0#24).2.ccr .i = true
    rw [hb.ccr]
    exact s.resetPrepared_flag_i
  · exact Quiet.branchAddress_mem (s := s.resetPrepared) hquiet 0#24

/-- Settles O59: the pins are looked at first, STBY before RES. -/
theorem pinsOverrideEverything : Obligations.PinsOverrideEverything := by
  unfold Obligations.PinsOverrideEverything
  intro s henv
  have hsample := State.sample_of_env_nil henv
  refine ⟨fun hstby => ?_, fun hstby hres => ?_, fun hstby hres hp => ?_⟩
  · have hreact : s.react [] = .next s.enterHardwareStandby := by simp [State.react, hstby]
    exact ⟨_, step_of_react_next hsample hreact, rfl, .of_regs rfl, rfl, rfl, .of_mem rfl⟩
  · have hreact : s.react [] = .next s.enterReset := by simp [State.react, hstby, hres]
    exact ⟨_, step_of_react_next hsample hreact, rfl, .one rfl, rfl, .of_regs rfl, rfl, .of_mem rfl⟩
  · exact step_of_react_next hsample (by simp [State.react, hstby, hres, hp])

end Sys2Proof.Machine
end

section
/-! Jumps and returns (45_branch.md, 46_system.md): JMP, RTS, RTE; and the round trips of a call with RTS and of TRAPA with
RTE. A frame is read back as it was pushed: its cells lie at different addresses, so each holds what was stored there. -/

namespace Sys2Proof.Machine

set_option Elab.async false

/-! ### The addresses of a frame -/

theorem evenAddr_or_one (a : Addr) : evenAddr (a ||| 1#24) = evenAddr a := by
  apply BitVec.eq_of_getLsbD_eq
  intro i hi
  by_cases h : i = 0
  · rw [h, evenAddr_getLsbD_zero, evenAddr_getLsbD_zero]
  · simp [evenAddr, BitVec.getLsbD_one, h]

theorem State.wordBase_ne_odd (s : State) (a b : Addr) : s.wordBase a ≠ s.wordBase b ||| 1#24 := fun e => by
  have heven : (s.wordBase a).getLsbD 0 = false := evenAddr_getLsbD_zero _
  rw [e] at heven
  simp at heven

theorem State.odd_ne_wordBase (s : State) (a b : Addr) : s.wordBase a ||| 1#24 ≠ s.wordBase b :=
  (s.wordBase_ne_odd b a).symm

/-- The two words of a frame lie at different addresses. -/
theorem State.wordBase_add_two_ne (s : State) (p : Addr) : s.wordBase (p + 2) ≠ s.wordBase p := fun e => by
  have h := congrArg BitVec.toNat e
  rw [show (s.wordBase (p + 2)).toNat = (s.am (p + 2)).toNat / 2 * 2 from evenAddr_toNat _,
    show (s.wordBase p).toNat = (s.am p).toNat / 2 * 2 from evenAddr_toNat _, State.am_toNat, State.am_toNat,
    BitVec.toNat_add] at h
  cases hs : s.mode <;> simp [hs] at h <;> omega

theorem State.odd_add_two_ne (s : State) (p : Addr) : s.wordBase (p + 2) ||| 1#24 ≠ s.wordBase p ||| 1#24 := fun e => by
  have h := congrArg evenAddr e
  rw [evenAddr_or_one, evenAddr_or_one, State.wordBase, State.wordBase, evenAddr_evenAddr, evenAddr_evenAddr] at h
  exact s.wordBase_add_two_ne p h

/-! ### Reading back what was stored -/

section ReadBack

variable {s t : State} {cells heads : List (Addr × Byte)} {free : List Addr}

theorem Stored.peek_of_lookup (h : Stored s t cells free) (hm : s.memMap = []) {a : Addr} {b : Byte} (hf : a ∉ free)
    (hl : cells.lookup a = some b) : t.peek a = b := by
  rw [h a hf, if_pos (State.accessKind_of_noMap hm a), hl]
  rfl

theorem lookup_append_of_ne {a : Addr} (h : ∀ x ∈ heads, x.1 ≠ a) : (heads ++ cells).lookup a = cells.lookup a := by
  rw [lookup_append, List.lookup_eq_none_iff.2 fun x hx => by simpa using (h x hx).symm]
  rfl

/-- A word stored behind cells at other addresses is read back. -/
theorem Stored.wordAt {q : Addr} {v : Word} (h : Stored s t (heads ++ wordCells s q v) free) (hm : s.memMap = [])
    (hmode : t.mode = s.mode) (hheads : ∀ x ∈ heads, x.1 ≠ s.wordBase q ∧ x.1 ≠ s.wordBase q ||| 1#24)
    (hfree : s.wordBase q ∉ free ∧ (s.wordBase q ||| 1#24) ∉ free) : t.wordAt q = v := by
  have hhigh : t.peek (s.wordBase q) = v.extractLsb' 8 8 := h.peek_of_lookup hm hfree.1 (by
    rw [lookup_append_of_ne fun x hx => (hheads x hx).1, wordCells, lookup_cons_if, if_pos rfl])
  have hlow : t.peek (s.wordBase q ||| 1#24) = v.extractLsb' 0 8 := h.peek_of_lookup hm hfree.2 (by
    rw [lookup_append_of_ne fun x hx => (hheads x hx).2, wordCells, lookup_cons_if,
      if_neg (s.odd_ne_wordBase q q), lookup_cons_if, if_pos rfl])
  rw [State.wordAt, State.wordBase_congr hmode, hhigh, hlow]
  exact (BitVec.extractLsb'_append_extractLsb'_eq_extractLsb' rfl).trans BitVec.extractLsb'_eq_self

/-- With RAM everywhere every word is readable. -/
theorem readableWord_of_noMap (hm : s.memMap = []) (a : Addr) : ReadableWord s a :=
  ⟨.inl (State.accessKind_of_noMap hm _), .inl (State.accessKind_of_noMap hm _)⟩

end ReadBack

/-! ### Return addresses -/

/-- The parts of a return address in a frame, put together again. -/
theorem addr_eq_parts (a : Addr) : a.extractLsb' 16 8 ++ a.setWidth 16 = a := by
  apply BitVec.eq_of_getLsbD_eq
  intro i hi
  rw [BitVec.getLsbD_append, BitVec.getLsbD_setWidth, BitVec.getLsbD_extractLsb']
  by_cases h : i < 16
  · simp [h]
  · have hle : i - 16 < 8 := by omega
    have hback : 16 + (i - 16) = i := by omega
    simp [h, hle, hback]

/-- In normal mode a return address is a word. -/
theorem State.am_eq_of_normal {s : State} (hm : s.mode = .normal) (a : Addr) :
    ((s.am a).setWidth 16).setWidth 24 = s.am a := by
  apply BitVec.eq_of_toNat_eq
  have hlt := s.am_lt_of_normal a hm
  rw [BitVec.toNat_setWidth, BitVec.toNat_setWidth]
  omega

theorem low24_append (x y : Word) : low24 (x ++ y) = x.extractLsb' 0 8 ++ y := by
  apply BitVec.eq_of_getLsbD_eq
  intro i hi
  rw [low24, BitVec.getLsbD_setWidth, BitVec.getLsbD_append, BitVec.getLsbD_append, BitVec.getLsbD_extractLsb']
  by_cases h : i < 16
  · simp [h, hi]
  · have hle : i - 16 < 8 := by omega
    simp [h, hi, hle]

/-- The address that the two words of an exception frame hold (R487). -/
def State.framePc (s : State) (h l : Word) : Addr :=
  match s.mode with
  | .normal => l.setWidth 24
  | .advanced => h.extractLsb' 0 8 ++ l

theorem State.framePc_congr {s t : State} (h : t.mode = s.mode) (x y : Word) : t.framePc x y = s.framePc x y := by
  unfold State.framePc
  rw [h]

theorem SameOutside.am {s t : State} (h : SameOutside s t) (a : Addr) : t.am a = s.am a := by
  unfold State.am
  rw [h.mode]

/-- The address of the next instruction is even where PC is. -/
theorem State.evenAddr_next (s : State) {k : Addr} (hpc : s.pc.getLsbD 0 = false) (hk : k.getLsbD 0 = false) :
    evenAddr (s.am (s.am (s.pc + k))) = s.am (s.pc + k) := by
  have h1 := (getLsbD_zero_eq_false_iff _).1 hpc
  have h2 := (getLsbD_zero_eq_false_iff _).1 hk
  apply BitVec.eq_of_toNat_eq
  rw [State.am_am, evenAddr_toNat, State.am_toNat, BitVec.toNat_add]
  cases s.mode <;> dsimp only <;> omega

/-! ### The frame of a call (R404) and of an exception (R487), read back -/

section Frames

variable {s t : State} {sp : Long} {a : Addr}

/-- RTS reads from the frame of a call the address the call pushed. -/
theorem callCells_read (h : Stored s t (callCells s sp (s.am a)).1 (callCells s sp (s.am a)).2) (hm : s.memMap = [])
    (hq : Quiet t) (hout : SameOutside s t) {v : Addr} (hv : EntryRead t (low24 sp) v) : v = s.am a := by
  have hmap : t.memMap = [] := hout.memMap.trans hm
  unfold EntryRead at hv
  unfold callCells at h
  rw [hout.mode] at hv
  cases hmode : s.mode <;> simp only [hmode] at h hv
  · have hword : t.wordAt (low24 sp) = (s.am a).setWidth 16 := Stored.wordAt (heads := []) h hm hout.mode (by simp) (by simp)
    rw [hv hq (readableWord_of_noMap hmap _), hword, State.am_eq_of_normal hmode]
  · have hword : t.wordAt (low24 sp + 2) = (s.am a).setWidth 16 :=
      Stored.wordAt (heads := [_]) h hm hout.mode
        (by simpa using ⟨s.odd_ne_wordBase _ _, (s.odd_add_two_ne _).symm⟩)
        (by simpa using ⟨s.wordBase_add_two_ne _, s.odd_ne_wordBase _ _⟩)
    have hbyte : t.peek (s.wordBase (low24 sp) ||| 1#24) = (s.am a).extractLsb' 16 8 :=
      h.peek_of_lookup hm (by simpa using s.odd_ne_wordBase _ _) (by rw [lookup_cons_if, if_pos rfl])
    rw [hv hq (readableWord_of_noMap hmap _) (readableWord_of_noMap hmap _), State.longAt, low24_append, hword,
      State.wordAt, extract_low, State.wordBase_congr hout.mode, hbyte, addr_eq_parts]

/-- RTE reads from the frame of an exception the CCR and the address the exception pushed. -/
theorem exceptionCells_read
    (h : Stored s t (exceptionCells s sp (s.am a)).1 (exceptionCells s sp (s.am a)).2) (hm : s.memMap = [])
    (hmode : t.mode = s.mode) :
    (t.wordAt (low24 sp)).extractLsb' 8 8 = s.ccr ∧
      s.framePc (t.wordAt (low24 sp)) (t.wordAt (low24 sp + 2)) = s.am a := by
  have hne := (s.wordBase_add_two_ne (low24 sp)).symm
  have hne1 := (s.odd_add_two_ne (low24 sp)).symm
  unfold exceptionCells at h
  unfold State.framePc
  rw [show t.wordAt (low24 sp) = t.peek (s.wordBase (low24 sp)) ++ t.peek (s.wordBase (low24 sp) ||| 1#24) by
    rw [State.wordAt, State.wordBase_congr hmode], extract_high, extract_low]
  cases hs : s.mode <;> simp only [hs] at h ⊢
  · have hword : t.wordAt (low24 sp + 2) = (s.am a).setWidth 16 :=
      Stored.wordAt (heads := [_]) h hm hmode (by simpa using ⟨hne, s.wordBase_ne_odd _ _⟩)
        (by simpa using ⟨s.wordBase_ne_odd _ _, hne1.symm⟩)
    refine ⟨h.peek_of_lookup hm (by simpa using s.wordBase_ne_odd _ _) (by rw [lookup_cons_if, if_pos rfl]), ?_⟩
    rw [hword, State.am_eq_of_normal hs]
  · have hword : t.wordAt (low24 sp + 2) = (s.am a).setWidth 16 :=
      Stored.wordAt (heads := [_, _]) h hm hmode
        (by simpa using ⟨⟨hne, s.wordBase_ne_odd _ _⟩, s.odd_ne_wordBase _ _, hne1⟩) (by simp)
    refine ⟨h.peek_of_lookup hm (by simp) (by rw [lookup_cons_if, if_pos rfl]), ?_⟩
    rw [hword, h.peek_of_lookup hm (by simp) (by
      rw [lookup_cons_if, if_neg (s.odd_ne_wordBase _ _), lookup_cons_if, if_pos rfl]), addr_eq_parts]

end Frames

/-! ### Jumps and returns -/

/-- The end of a jump or return: PC is loaded, the rest is as before. -/
theorem DataFrame.setPc {s u : State} (h : DataFrame s u) (v : Addr) :
    (u.setPc v).pc = evenAddr (s.am v) ∧ SameControl s (u.setPc v) ∧ SameOutside s (u.setPc v) := by
  refine ⟨?_, h.control.trans ⟨rfl, rfl, rfl, rfl⟩, h.outside.trans (by constructor <;> rfl)⟩
  rw [State.setPc_pc, h.outside.am]

/-- What RTS does, with the state it answers (R413). -/
theorem exec_rts (s : State) : ∃ u v, exec .rts s = .next u ∧ EntryRead s (low24 s.sp) v ∧ u.pc = evenAddr (s.am v) ∧
    OnlyLong s u 7#3 (s.sp + s.frameSize) ∧ FlagsBecome s u [] ∧ (Quiet s → SameMemory s u) ∧ SameControl s u ∧
    SameOutside s u := by
  obtain ⟨hread, hframe, hmem, hccr, honly⟩ := s.subPop_spec
  obtain ⟨hpc, hcontrol, hout⟩ := hframe.setPc s.subPop.1
  exact ⟨_, _, rfl, hread, hpc, honly.of_regs rfl, .same hccr, fun hq => .of_mem (hmem hq), hcontrol, hout⟩

/-- What RTE does, with the state it answers (R432). -/
theorem exec_rte (s : State) : ∃ u h l, exec .rte s = .next u ∧ WordRead s (low24 s.sp) h ∧
    WordRead s (low24 s.sp + 2) l ∧ u.ccr = h.extractLsb' 8 8 ∧
    u.pc = evenAddr (s.am (s.framePc h l)) ∧
    OnlyLong s u 7#3 (s.sp + 4) ∧ (Quiet s → SameMemory s u) ∧ SameControl s u ∧ SameOutside s u := by
  obtain ⟨h, l, hh, hl, hccr, haddr, hframe, hmem, honly⟩ := s.excPop_spec
  obtain ⟨hpc, hcontrol, hout⟩ := (hframe.trans (State.setCcr_frame _ s.excPop.1)).setPc s.excPop.2.1
  exact ⟨_, h, l, rfl, hh, hl, hccr, hpc.trans (congrArg (fun a => evenAddr (s.am a)) haddr), honly.of_regs rfl,
    fun hq => .of_mem (hmem hq), hcontrol, hout⟩

/-! ### Round trips -/

theorem Quiet.subPush {s : State} (hq : Quiet s) (ret : Addr) : Quiet (s.subPush ret) := by
  unfold State.subPush
  cases s.mode
  · exact Quiet.storeWord (s := s.setSp (s.sp - 2)) hq _ _
  · exact Quiet.storeWord (Quiet.storeWord (s := s.drawByte.2.setSp (s.sp - 4)) hq _ _) _ _

/-- A register that went down and comes up again, the others unchanged. -/
theorem OnlyLong.restored {s t u : State} {n : ERn} {x k : Long} (h : OnlyLong s t n (s.er n - k)) (hu : OnlyLong t u n x)
    (hx : x = t.er n + k) : SameRegisters s u := by
  obtain ⟨hn, hrest⟩ := h
  obtain ⟨hn', hrest'⟩ := hu
  intro m
  by_cases hm : m = n
  · rw [hm, hn', hx, hn, BitVec.sub_add_cancel]
  · exact (hrest' m hm).trans (hrest m hm)

theorem FlagsBecome.nil_trans {s t u : State} (h : FlagsBecome s t []) (k : FlagsBecome t u []) : FlagsBecome s u [] :=
  fun f => (k f).trans (h f)

/-- RTS undoes any call, its target known or read from memory. -/
theorem rts_after_call {i : Instr} {s b : State} {k a : Addr} (he : exec i s = .next (b.call k a))
    (hk : k = BitVec.ofNat 24 i.length) (heven : k.getLsbD 0 = false) (hb : BusRead s b) (hpc : s.pc.getLsbD 0 = false)
    (hq : Quiet s) (hm : s.memMap = []) :
    Answers i s fun t => Answers .rts t fun u =>
      u.pc = s.am (s.pc + BitVec.ofNat 24 i.length) ∧ SameRegisters s u ∧ FlagsBecome s u [] := by
  obtain ⟨t, ht, honly, hflags, -, -, hout, hstored⟩ := CallForm.call he hk hb rfl
  have hqt : Quiet t := by
    rw [he] at ht
    cases ht
    exact (hb.quiet hq).subPush _
  obtain ⟨u, v, hu, hread, hupc, huonly, huflags, -⟩ := exec_rts t
  have hsp : t.sp = s.sp - s.frameSize := honly.1
  rw [hsp] at hread
  have hv := callCells_read (hstored hq) hm hqt hout hread
  refine ⟨t, ht, u, hu, ?_, ?_, hflags.nil_trans huflags⟩
  · subst hk
    rw [hupc, hv, hout.am, s.evenAddr_next hpc heven]
  · exact honly.restored huonly (by rw [State.frameSize_congr hout.mode]; rfl)

/-! ### The obligations -/

/-- Settles O43: only JMP @@aa:8 reads memory, and it reads its table entry. -/
theorem jumpsGoToTheirTarget : Obligations.JumpsGoToTheirTarget := by
  unfold Obligations.JumpsGoToTheirTarget
  intro s
  refine ⟨fun n => .of_pc rfl, fun abs => .of_pc rfl, fun abs => ⟨_, s.branchAddress_read _, ?_⟩⟩
  have hb := s.branchAddress_frame (eaMemInd abs)
  obtain ⟨hpc, hcontrol, hout⟩ := hb.data.setPc (s.branchAddress (eaMemInd abs)).1
  exact ⟨_, rfl, hpc, .of_regs hb.regs, .same hb.ccr, fun hq => .of_mem (hq.branchAddress_mem _), hcontrol, hout⟩

/-- Settles O45. -/
theorem returnFromSubroutine : Obligations.ReturnFromSubroutine := by
  unfold Obligations.ReturnFromSubroutine
  intro s
  obtain ⟨u, v, hu, hread, h⟩ := exec_rts s
  exact ⟨v, hread, u, hu, h⟩

/-- Settles O46: every call ends in `State.call`; JSR @@aa:8 reads its target first. -/
theorem callThenReturnComesBack : Obligations.CallThenReturnComesBack := by
  unfold Obligations.CallThenReturnComesBack
  intro s i hpc hq hm hi
  obtain ⟨disp, rfl⟩ | ⟨disp, rfl⟩ | ⟨n, rfl⟩ | ⟨abs, rfl⟩ | ⟨abs, rfl⟩ := hi
  · exact rts_after_call rfl rfl rfl (.refl s) hpc hq hm
  · exact rts_after_call rfl rfl rfl (.refl s) hpc hq hm
  · exact rts_after_call rfl rfl rfl (.refl s) hpc hq hm
  · exact rts_after_call rfl rfl rfl (.refl s) hpc hq hm
  · exact rts_after_call rfl rfl rfl (s.branchAddress_busRead _) hpc hq hm

/-- Settles O48. -/
theorem returnFromException : Obligations.ReturnFromException := by
  unfold Obligations.ReturnFromException
  intro s
  obtain ⟨u, h, l, hu, hh, hl, hrest⟩ := exec_rte s
  exact ⟨h, l, hh, hl, u, hu, hrest⟩

/-- Settles O49: RTE reads the frame that TRAPA stored. -/
theorem trapThenReturnComesBack : Obligations.TrapThenReturnComesBack := by
  unfold Obligations.TrapThenReturnComesBack
  intro s imm hpc hq hm
  obtain ⟨htaken, -, -, hout⟩ := s.exceptionEntry_spec (s.nextPc 2) (s.trapVector imm)
  have hqt : Quiet (s.exceptionEntry (s.nextPc 2) (s.trapVector imm)) := hq.exceptionEntry _ _
  refine ⟨_, rfl, ?_⟩
  generalize s.exceptionEntry (s.nextPc 2) (s.trapVector imm) = t at htaken hout hqt
  obtain ⟨u, h, l, hu, hh, hl, hccr, hupc, huonly, -⟩ := exec_rte t
  have hmap : t.memMap = [] := hout.memMap.trans hm
  have hsp : t.sp = s.sp - 4 := htaken.registers.1
  obtain ⟨hreadCcr, hreadPc⟩ := exceptionCells_read (htaken.frame hq) hm hout.mode
  rw [hh hqt (readableWord_of_noMap hmap _), hsp] at hccr hupc
  rw [hl hqt (readableWord_of_noMap hmap _), hsp, State.framePc_congr hout.mode, hreadPc] at hupc
  refine ⟨u, hu, ?_, hccr.trans hreadCcr, htaken.registers.restored huonly rfl⟩
  rw [hupc, hout.am]
  exact s.evenAddr_next hpc (k := 2) rfl

end Sys2Proof.Machine
end
